-- ==== Sys2Proof/Word.lean ====
section
/-! DEFINITION. The word types of the LT-2416 and its fixed index ranges. -/

namespace Sys2Proof

/-- One byte of memory or of the segment buffer. -/
abbrev Byte := BitVec 8

/-- One 32-bit word of the register window or of the master port (spec/09, R171). -/
abbrev Word := BitVec 32

/-- A tag, chosen by software (spec/02, R27). -/
abbrev Tag := BitVec 8

/-- A pacing line, 0 to 3 (spec/05, R97). -/
abbrev LineIndex := Fin 4

/-- A mover, 0 or 1 (spec/04). -/
abbrev MoverIndex := Fin 2

/-- An entry of the surface table, 0 to 23 (spec/01, R1). -/
abbrev SurfaceIndex := Fin 24

/-- A word offset of the register window: A[7:2] (spec/09, R165). The byte offset is four times it. -/
abbrev Offset := BitVec 6

end Sys2Proof
end

