-- ==== Sys2Proof/Syntax.lean ====
section
/-! DEFINITION. The commands of the LT-2416: one constructor per row of spec/opcode_table.json. -/

namespace Sys2Proof

/-- The direction of a window access, a write with the word on D[31:0] (spec/09, R165). -/
inductive Access where
  | read
  | write (value : Word)
deriving DecidableEq, Repr

/-- One command or event that the device takes, whole and indivisible (spec/95). A value that the
spec says is ignored (the operand of RESUME, the word written to POST) is not an operand. -/
inductive Instr where
  /-- CONTROL with command code 1 (R9 to R11). -/
  | define (index : BitVec 8)
  /-- CONTROL with command code 2 (R13). -/
  | release (index : BitVec 8)
  /-- CONTROL with command code 3 (R157). -/
  | resume
  /-- CONTROL with command code 4 (R159). -/
  | flush
  /-- CONTROL with command code 5 (R149). -/
  | abortTag (tag : Tag)
  /-- CONTROL with command code 6 (R136). -/
  | listStart
  /-- CONTROL with command code 7 (R143). -/
  | listStop
  /-- CONTROL with command code 8 (R162). -/
  | engineReset
  /-- CONTROL with command code 0 or 9 to 15 (R167). -/
  | unknownCommand (code : BitVec 4) (operand : BitVec 8)
  /-- A write to POST (R49). -/
  | post
  /-- A write to COMPLETION_POP (R125). -/
  | completionPop
  /-- A word write to INT_CAUSE (R126). -/
  | intCauseWrite (value : Word)
  /-- A word write to INT_ENABLE (R127). -/
  | intEnableWrite (value : Word)
  /-- A word write to FREED_SET (R19). -/
  | freedSetWrite (value : Word)
  /-- A word write to STATUS (R166). -/
  | statusWrite (value : Word)
  /-- A word write to TIME_BASE (R99). -/
  | timeBaseWrite (value : Word)
  /-- A word write to a register without behaviour of its own (R165). -/
  | registerWrite (offset : Offset) (value : Word)
  /-- A window access whose byte enables are not all active (R166); bit i of `enables` is BE[i]n active. -/
  | nonWordAccess (access : Access) (offset : Offset) (enables : BitVec 4)
  /-- RESETn low, or power-up (R170). -/
  | fullReset
  /-- RESETn going high (R170). -/
  | resetRelease
  /-- PREQn becoming active (R102). -/
  | preqActive (line : LineIndex)
  /-- PREQn becoming inactive (R104). -/
  | preqInactive (line : LineIndex)
  /-- A falling edge of PENDn (R109). -/
  | pendFall (line : LineIndex)
  /-- A tick of the time base (R99, R107). -/
  | tick
  /-- The expiry of a line timer that has reached 0 (R107). -/
  | timerExpiry (line : LineIndex)
  /-- A beat of the burst in progress answered with MRDYn; `data` is MDATA of a read (R177). -/
  | beatAnswered (data : Word)
  /-- A beat of the burst in progress answered with MERRn (R177). -/
  | beatError
  /-- A list reader in WAIT_SPACE presents its record again after a removal (R139). -/
  | waitSpacePresentation
deriving DecidableEq, Repr

end Sys2Proof
end

