-- ==== Sys2Proof/WellFormed.lean ====
section
/-! DEFINITION. Which operands a command of the table may carry: the checks that its row makes. -/

namespace Sys2Proof

/-- Command codes that no control command has: 0 and 9 to 15 (spec/09, R167). -/
def unknownCode (code : BitVec 4) : Bool :=
  code.toNat = 0 || 9 ≤ code.toNat

/-- Word offsets whose writes have a row of their own in the table: CONTROL, STATUS, INT_CAUSE, INT_ENABLE,
TIME_BASE, POST, FREED_SET and COMPLETION_POP (spec/09, Table 9-1). -/
def hasOwnRow (offset : Offset) : Bool :=
  [0x01, 0x03, 0x04, 0x05, 0x07, 0x10, 0x17, 0x2D].contains offset.toNat

/-- A command whose operands are those of its row. -/
def Instr.wellFormed : Instr → Bool
  | .unknownCommand code _ => unknownCode code
  | .registerWrite offset _ => !hasOwnRow offset
  | .nonWordAccess _ _ enables => enables != 15#4
  | .define _ | .release _ | .resume | .flush | .abortTag _ | .listStart | .listStop | .engineReset => true
  | .post | .completionPop => true
  | .intCauseWrite _ | .intEnableWrite _ | .freedSetWrite _ | .statusWrite _ | .timeBaseWrite _ => true
  | .fullReset | .resetRelease => true
  | .preqActive _ | .preqInactive _ | .pendFall _ | .tick | .timerExpiry _ => true
  | .beatAnswered _ | .beatError | .waitSpacePresentation => true

end Sys2Proof
end

