-- ==== Sys2Proof/Decode.lean ====
section
/-! DEFINITION. From the bits of the outside world to commands: the table's words (it gives none), and the write
side of the register window (spec/09, R165, R167, Table 9-1), with the way back. -/

namespace Sys2Proof

/-- spec/opcode_table.json gives no row any bits, so no word spells a command (log 24). -/
def decodeTableWord (_nbits _w : Nat) : Option Instr :=
  none

/-- A word written to CONTROL: command code in bits 3 to 0, operand in bits 15 to 8 (R167, Table 9-8). -/
def decodeControl (word : Word) : Instr :=
  let code := word.extractLsb' 0 4
  let operand := word.extractLsb' 8 8
  match code.toNat with
  | 1 => .define operand
  | 2 => .release operand
  | 3 => .resume
  | 4 => .flush
  | 5 => .abortTag operand
  | 6 => .listStart
  | 7 => .listStop
  | 8 => .engineReset
  | _ => .unknownCommand code operand

/-- A word write at a word offset of the window (R165, Table 9-1). -/
def decodeWordWrite (offset : Offset) (word : Word) : Instr :=
  match offset.toNat with
  | 0x01 => decodeControl word
  | 0x03 => .statusWrite word
  | 0x04 => .intCauseWrite word
  | 0x05 => .intEnableWrite word
  | 0x07 => .timeBaseWrite word
  | 0x10 => .post
  | 0x17 => .freedSetWrite word
  | 0x2D => .completionPop
  | _ => .registerWrite offset word

/-- A write access of the window: a word access has all four byte enables active (R165, R166). -/
def decodeWindowWrite (offset : Offset) (enables : BitVec 4) (word : Word) : Instr :=
  if enables = 15#4 then decodeWordWrite offset word else .nonWordAccess (.write word) offset enables

/-- The word of CONTROL that gives a command code and an operand, with every ignored bit 0 (Table 9-8). -/
def controlWord (code : BitVec 4) (operand : BitVec 8) : Word :=
  (0#16 ++ operand) ++ (0#4 ++ code)

/-- The word write that a host makes to give a command: offset and word, ignored bits 0. None for a command
that is no word write. -/
def encodeWordWrite : Instr → Option (Offset × Word)
  | .define index => some (0x01#6, controlWord 1#4 index)
  | .release index => some (0x01#6, controlWord 2#4 index)
  | .resume => some (0x01#6, controlWord 3#4 0#8)
  | .flush => some (0x01#6, controlWord 4#4 0#8)
  | .abortTag tag => some (0x01#6, controlWord 5#4 tag)
  | .listStart => some (0x01#6, controlWord 6#4 0#8)
  | .listStop => some (0x01#6, controlWord 7#4 0#8)
  | .engineReset => some (0x01#6, controlWord 8#4 0#8)
  | .unknownCommand code operand => some (0x01#6, controlWord code operand)
  | .statusWrite value => some (0x03#6, value)
  | .intCauseWrite value => some (0x04#6, value)
  | .intEnableWrite value => some (0x05#6, value)
  | .timeBaseWrite value => some (0x07#6, value)
  | .post => some (0x10#6, 0#32)
  | .freedSetWrite value => some (0x17#6, value)
  | .completionPop => some (0x2D#6, 0#32)
  | .registerWrite offset value => some (offset, value)
  | .nonWordAccess _ _ _ | .fullReset | .resetRelease | .preqActive _ | .preqInactive _ | .pendFall _ => none
  | .tick | .timerExpiry _ | .beatAnswered _ | .beatError | .waitSpacePresentation => none

end Sys2Proof
end

