-- ==== Sys2Proof/Config.lean ====
section
/-! DEFINITION. The fixed capacities of the device (spec/00, Table 1) and its one free value. -/

namespace Sys2Proof.Config

/-- NCMD: command queue entries. -/
def queueCapacity : Nat := 16

/-- NCPL: completion queue records. -/
def completionCapacity : Nat := 32

/-- SEG: bytes of one segment buffer. -/
def segmentBytes : Nat := 256

/-- BMAX: beats of the longest master-port burst. -/
def maxBeats : Nat := 16

/-- Beats of one list record: LREC is 32 bytes (spec/07, R137). -/
def listRecordBeats : Nat := 8

/-- FREE VALUE (log 9). Two requests that one event brings to a free master port "may be taken in either order"
(spec/09, R178): true where the later of the two is taken first, at the n-th such choice. -/
opaque laterRequestFirst : Nat → Bool

end Sys2Proof.Config
end

