-- ==== Sys2Proof/Machine/State.lean ====
section
/-! DEFINITION. Everything the spec gives the LT-2416 to hold, as plain data, and its values after a full reset. -/

namespace Sys2Proof.Machine

/-! ### Surface table (spec/01) -/

/-- Life-cycle state of a surface entry (Table 4-6). -/
inductive SurfaceState where
  | free | defined | draining
deriving DecidableEq, Repr

/-- Layout of a surface (section 1.2). -/
inductive Shape where
  | line | plane | volume | port
deriving DecidableEq, Repr

/-- One entry of the surface table (R1, Table 4-1). Unused descriptor fields hold the values of Table 4-2. -/
structure Surface where
  state : SurfaceState
  /-- Counts successful DEFINEs, mod 16 (R12). -/
  generation : BitVec 4
  /-- Queued and in-flight commands naming the entry (R16); a count that never reaches 31, so kept as a
  number (log 25). -/
  refcount : Nat
  /-- None, shown as code 0, in an entry never defined since full reset (R22, R173). -/
  shape : Option Shape
  /-- Bytes per element: 1, 2 or 4; 0 after full reset. -/
  elementSize : BitVec 4
  readable : Bool
  writable : Bool
  base : Word
  xExtent : BitVec 16
  yExtent : BitVec 16
  zExtent : BitVec 16
  rowPitch : Word
  slicePitch : Word
  /-- The low element_size bytes of the staged key, or absent (R6). -/
  key : Option Word
  /-- Pacing binding of a PORT, or absent (R7). -/
  binding : Option LineIndex
  /-- Burst length B of a PORT (R7). -/
  burst : BitVec 5
deriving DecidableEq, Repr

/-! ### Transfer commands and the command queue (spec/02, spec/03) -/

/-- Kinds of transfer command (Table 2-1). -/
inductive Kind where
  | move | fill | fence
deriving DecidableEq, Repr

/-- A position in a surface, or a size w, h, d. -/
structure Triple where
  x : Nat
  y : Nat
  z : Nat
deriving DecidableEq, Repr

/-- A closed byte range (R38). -/
structure Range where
  lo : Nat
  hi : Nat
deriving DecidableEq, Repr

/-- One side of an accepted command: surface, effective origin (R34) and effective footprint (R38). -/
structure Side where
  surface : SurfaceIndex
  origin : Triple
  footprint : Option Range
deriving DecidableEq, Repr

/-- An accepted transfer command, as Table 2-6 gives it. A FENCE has no side and counts of 0. -/
structure Entry where
  kind : Kind
  tag : Tag
  clip : Bool
  keyed : Bool
  signal : Bool
  /-- Source side of a MOVE. -/
  src : Option Side
  /-- Destination side of a MOVE or FILL. -/
  dst : Option Side
  fill : Word
  /-- Effective size (ew, eh, ed). -/
  size : Triple
  requested : Nat
  clipped : Nat
  /-- Traversal direction (R40). -/
  descending : Bool
  /-- Pacing line of a bound PORT side (R32). -/
  line : Option LineIndex
  /-- The cancelled mark (R48). -/
  cancelled : Bool
deriving DecidableEq, Repr

/-- Refusal reasons of acceptance (Table 2-5). -/
inductive Reason where
  | full | badKind | badOption | noSurface | stale | draining | notReadable | notWritable
  | portPair | sizeMismatch | noKey | badRect | aliased
deriving DecidableEq, Repr

/-- Result code of the last POST (R50). -/
inductive PostCode where
  | none
  | accepted
  | refused (reason : Reason)
deriving DecidableEq, Repr

/-- POST_RESULT (R50). -/
structure PostResult where
  code : PostCode
  tag : Tag
  count : Nat
deriving DecidableEq, Repr

/-! ### Master port (spec/09) -/

/-- The three requesters of the master port (R178). -/
inductive Requester where
  | mover (m : MoverIndex)
  | reader
deriving DecidableEq, Repr

/-- One beat: its address (the word address, or the port base of a single-beat port access, R90), its active lanes,
and for a write the bytes of the active lanes, lowest lane first (R176). -/
structure Beat where
  address : Word
  enables : BitVec 4
  bytes : List Byte
deriving DecidableEq, Repr

/-- The three forms of burst (R176). -/
inductive BurstForm where
  /-- Consecutive words in ascending order: memory runs and list fetches. -/
  | incrementing
  /-- The start word on every beat: the port side of a burst of 4-byte elements. -/
  | fixed
  /-- One beat: a 1-byte or 2-byte port element. -/
  | single
deriving DecidableEq, Repr

/-- A master-port burst: form, direction, start address, beat count, and the beats not yet answered. -/
structure Burst where
  form : BurstForm
  write : Bool
  start : Word
  length : Nat
  beats : List Beat
deriving DecidableEq, Repr

/-- The burst in progress. `live` is false once its requester has gone (LIST_STOP, FLUSH, ENGINE_RESET): its
answers then reach nobody (R143, R179). -/
structure Grant where
  owner : Requester
  live : Bool
  burst : Burst
deriving DecidableEq, Repr

/-! ### Movers (spec/04) -/

/-- Mover states (R73). -/
inductive MoverState where
  | idle | run | pace | post
deriving DecidableEq, Repr

/-- READ or WRITE: the side of a unit (R77, R78), and of a fault (R90). -/
inductive Direction where
  | read | write
deriving DecidableEq, Repr

/-- Completion outcomes (Table 6-2). -/
inductive Outcome where
  | done | short | aborted | faulted | timeout | fence
deriving DecidableEq, Repr

/-- Fault address and fault side (R90). -/
structure FaultItem where
  address : Word
  side : Direction
deriving DecidableEq, Repr

/-- One mover (R72, Table 4-8), with the unit in progress. -/
structure Mover where
  state : MoverState
  transfer : Option Entry
  /-- The data of the unit in progress, in element order, at most 256 bytes (log 12). -/
  buffer : List Byte
  /-- The unit in progress, or the next one, numbered from 0 in traversal order. -/
  position : Nat
  /-- The side of the unit in progress. -/
  side : Direction
  /-- The bursts of that side not yet requested. -/
  bursts : List Burst
  /-- Elements of the unit that match the key, held until it completes (R80). -/
  matched : Nat
  moved : Nat
  skipped : Nat
  stop : Bool
  outcome : Option Outcome
  fault : Option FaultItem
  /-- The request waiting at the arbiter (R88, R178). -/
  request : Option Burst
deriving DecidableEq, Repr

/-! ### Pacing lines (spec/05) -/

/-- Pacing line states (R97). -/
inductive LineState where
  | idle | waitLow | wait | burst
deriving DecidableEq, Repr

/-- Pacing modes (R100). -/
inductive Mode where
  | step | demand
deriving DecidableEq, Repr

/-- One pacing line (R97, Table 5-1). -/
structure PacingLine where
  state : LineState
  bound : Option MoverIndex
  mode : Mode
  timeout : BitVec 16
  latchedMode : Mode
  latchedTimeout : BitVec 16
  timerRunning : Bool
  /-- Ticks left. A running timer at 0 has reached its expiry, which TIMER_EXPIRY delivers (log 5). -/
  timerCount : BitVec 16
  endSeen : Bool
  /-- PREQn as synchronised: true is active (R98). It belongs to the peripheral. -/
  request : Bool
  /-- PACKn pulses begun since full reset (R98, R106): one at each admission, also where PACKn goes inactive and active
  again inside one event (R103). The model's own count (log 28). -/
  pulses : Nat
  /-- The value of `pulses` at the line's last binding, from which the pulses of its transfer count (R183; log 28). -/
  pulsesBefore : Nat
deriving DecidableEq, Repr

/-! ### Completion queue (spec/06) -/

/-- A completion record (R117, Table 6-1). -/
structure Completion where
  tag : Tag
  kind : Kind
  outcome : Outcome
  /-- None for a record of the dispatcher. -/
  mover : Option MoverIndex
  signal : Bool
  sequence : BitVec 16
  moved : Nat
  skipped : Nat
  clipped : Nat
  /-- Present with outcome FAULTED only. -/
  fault : Option FaultItem
deriving DecidableEq, Repr

/-! ### Dispatcher (spec/03, spec/08) -/

/-- Head wait reasons (R68). -/
inductive WaitReason where
  | none | mover | hazard | line | fence | space
deriving DecidableEq, Repr

/-- The fault record (R153, Table 8-2). -/
structure FaultRecord where
  mover : MoverIndex
  tag : Tag
  kind : Kind
  item : FaultItem
deriving DecidableEq, Repr

/-- The dispatcher: RUN or HALT, wait reason, slot request, fault record (R56, R62, R68, R153). -/
structure Dispatcher where
  halted : Bool
  waitReason : WaitReason
  slotRequest : Bool
  /-- None when the fault record is empty. -/
  fault : Option FaultRecord
deriving DecidableEq, Repr

/-! ### List reader (spec/07) -/

/-- List reader states (R133). -/
inductive ReaderState where
  | idle | fetch | waitSpace
deriving DecidableEq, Repr

/-- End reasons of a list (Table 7-1). -/
inductive EndReason where
  | none | ended | stopped | rejected | faulted
deriving DecidableEq, Repr

/-- The list reader (R133, Table 7-1). -/
structure ListReader where
  state : ReaderState
  current : Word
  /-- Words of the fetch burst received so far, oldest first (R137). -/
  fetched : List Word
  /-- The eight words of the record in hand (R133). -/
  inHand : Option (Vector Word 8)
  /-- A removal has happened whose presentation has not (R51, log 11). -/
  due : Bool
  /-- The request waiting at the arbiter (R137). -/
  request : Option Burst
  count : BitVec 32
  endReason : EndReason
  refusal : Option Reason
  stopAddress : Word
deriving DecidableEq, Repr

/-! ### Register window and notification (spec/06, spec/09) -/

/-- The six causes (Table 6-3), in the bit order of INT_CAUSE (Table 9-8). -/
inductive Cause where
  | completion | signal | lowWater | halt | list | freed
deriving DecidableEq, Repr

/-- Result codes of CONTROL_RESULT (Table 9-3). -/
inductive ResultCode where
  | none | ok | deferred | index | notFree | badShape | badSize | badExtent | badPitch | misaligned
  | range | noAccess | badPort | notDefined | alreadyDraining | notHalted | busy | badAddress
  | notRunning | unknown
deriving DecidableEq, Repr

/-- CONTROL_RESULT: code in bits 7 to 0, value in bits 31 to 8 (R168). -/
structure ControlResult where
  code : ResultCode
  value : BitVec 24
deriving DecidableEq, Repr

/-! ### The machine -/

/-- The whole device, with the queue of commands that wait for it. -/
structure State where
  /-- The model's queue of commands, first in, first out (log 2). -/
  pending : List Instr
  /-- The model's count of free choices drawn (log 10). -/
  draws : Nat
  /-- RESETn is low (R170). -/
  inReset : Bool
  surfaces : Vector Surface 24
  surfaceStaging : Vector Word 7
  surfaceSelect : BitVec 5
  freedSet : BitVec 24
  commandStaging : Vector Word 7
  queue : List Entry
  postResult : PostResult
  dispatcher : Dispatcher
  movers : Vector Mover 2
  lines : Vector PacingLine 4
  timeBase : Nat
  /-- None while stopped in full reset, else the CLK periods loaded at its last restart (R99, log 6). -/
  divider : Option Nat
  completions : List Completion
  sequence : BitVec 16
  causes : BitVec 6
  enables : BitVec 6
  completionThreshold : Nat
  lowWater : Nat
  reader : ListReader
  listAddress : Word
  rotation : List Requester
  grant : Option Grant
  controlResult : ControlResult
  badAccess : Bool
deriving DecidableEq, Repr

/-- Reasons the machine could stop with a fault: none. The spec gives every event an effect in every state; a bus
error response is an event (R177), not a stop. Safe: nothing raises it. -/
inductive Fault where
deriving DecidableEq, Repr

/-- Reasons a command could have no meaning. -/
inductive Refusal where
  /-- A row of the table without a meaning yet; raised by an arm of exec alone. Safe: the model stops. No arm
  raises it. -/
  | notModelled (mnemonic : String)
deriving DecidableEq, Repr

/-- A surface entry after full reset (R22). -/
def Surface.reset : Surface where
  state := .free
  generation := 0
  refcount := 0
  shape := none
  elementSize := 0
  readable := false
  writable := false
  base := 0
  xExtent := 0
  yExtent := 0
  zExtent := 0
  rowPitch := 0
  slicePitch := 0
  key := none
  binding := none
  burst := 0

/-- An IDLE mover with no transfer (R72, R95); the items without meaning there are at the values of log 20. -/
def Mover.idle : Mover where
  state := .idle
  transfer := none
  buffer := []
  position := 0
  side := .read
  bursts := []
  matched := 0
  moved := 0
  skipped := 0
  stop := false
  outcome := none
  fault := none
  request := none

/-- A pacing line after full reset (R115), with PREQn inactive (log 4). -/
def PacingLine.reset : PacingLine where
  state := .idle
  bound := none
  mode := .step
  timeout := 0
  latchedMode := .step
  latchedTimeout := 0
  timerRunning := false
  timerCount := 0
  endSeen := false
  request := false
  pulses := 0
  pulsesBefore := 0

/-- The dispatcher after either reset (R70, R71, R153). -/
def Dispatcher.reset : Dispatcher where
  halted := false
  waitReason := .none
  slotRequest := false
  fault := none

/-- The list reader after either reset (R147, R148). -/
def ListReader.reset : ListReader where
  state := .idle
  current := 0
  fetched := []
  inHand := none
  due := false
  request := none
  count := 0
  endReason := .none
  refusal := none
  stopAddress := 0

/-- The device right after a full reset, RESETn just gone high (log 1): every rule on full reset, R22, R25, R50, R54,
R70, R95, R99, R115, R128, R130, R135, R147, R153, R166, R167, R170, R178. -/
def State.reset : State where
  pending := []
  draws := 0
  inReset := false
  surfaces := Vector.replicate 24 Surface.reset
  surfaceStaging := Vector.replicate 7 0
  surfaceSelect := 0
  freedSet := 0
  commandStaging := Vector.replicate 7 0
  queue := []
  postResult := { code := .none, tag := 0, count := 0 }
  dispatcher := Dispatcher.reset
  movers := Vector.replicate 2 Mover.idle
  lines := Vector.replicate 4 PacingLine.reset
  timeBase := 100
  divider := some 100
  completions := []
  sequence := 0
  causes := 0
  enables := 0
  completionThreshold := 1
  lowWater := 8
  reader := ListReader.reset
  listAddress := 0
  rotation := [.mover 0, .mover 1, .reader]
  grant := none
  controlResult := { code := .none, value := 0 }
  badAccess := false

end Sys2Proof.Machine
end

