-- ==== Sys2Proof/Machine/Flags.lean ====
section
/-! DEFINITION. The notification block: cause flags, enables and INTn (spec/06, section 6.5). -/

namespace Sys2Proof.Machine

/-- The bit of a cause in INT_CAUSE and INT_ENABLE (Table 9-8). -/
def Cause.bit : Cause → Nat
  | .completion => 0
  | .signal => 1
  | .lowWater => 2
  | .halt => 3
  | .list => 4
  | .freed => 5

/-- The cause's flag alone. -/
def Cause.mask (c : Cause) : BitVec 6 :=
  1#6 <<< c.bit

/-- Whether a cause flag is set (R126). -/
def State.causeSet (s : State) (c : Cause) : Bool :=
  s.causes.getLsbD c.bit

/-- A setting event of a cause: its flag is set whatever its enable (R126). -/
def State.raise (s : State) (c : Cause) : State :=
  { s with causes := s.causes ||| c.mask }

/-- A setting event where a condition holds. -/
def State.raiseIf (s : State) (b : Bool) (c : Cause) : State :=
  if b then s.raise c else s

/-- INTn: active while at least one cause is set and its enable is set (R127), inactive while RESETn is low (R170). -/
def State.intActive (s : State) : Bool :=
  !s.inReset && (s.causes &&& s.enables) != 0

end Sys2Proof.Machine
end

