-- ==== Sys2Proof/Machine/Operands.lean ====
section
/-! DEFINITION. Decoding the words that the host and the lists write: command records (Table 9-5), link words (R132),
surface staging (Table 9-6), and bytes of a word (R176). -/

namespace Sys2Proof.Machine

/-- A field of a word, as a number. -/
def field (w : Word) (low width : Nat) : Nat :=
  (w.extractLsb' low width).toNat

/-- A bit of a word. -/
def flag (w : Word) (bit : Nat) : Bool :=
  w.getLsbD bit

/-- A signed 16-bit field of a word (R171). -/
def signedField (w : Word) (low : Nat) : Int :=
  (w.extractLsb' low 16).toInt

/-- The low `n` bytes of a word, the least significant first (R176). -/
def wordBytes (n : Nat) (w : Word) : List Byte :=
  (List.range n).map fun i => w.extractLsb' (8 * i) 8

/-- The low `n` bytes of a word, the higher bytes 0 (R6). -/
def lowBytes (n : Nat) (w : Word) : Word :=
  BitVec.ofNat 32 (w.toNat % 2 ^ (8 * n))

/-- A value kept within a range: below it the least, above it the greatest (R54, R99, R128). -/
def clamp (lo hi v : Nat) : Nat :=
  max lo (min hi v)

/-- The bytes of a word on the active lanes, lowest lane first (R176). -/
def laneBytes (enables : BitVec 4) (w : Word) : List Byte :=
  ((List.range 4).filter fun l => enables.getLsbD l).map fun l => w.extractLsb' (8 * l) 8

/-- Three signed coordinates as a command record gives them. -/
structure Origin where
  x : Int
  y : Int
  z : Int
deriving DecidableEq, Repr

/-- A surface named by a command: index and generation (R26). -/
structure SurfaceName where
  index : Nat
  generation : BitVec 4
deriving DecidableEq, Repr

/-- The fields of a command record (Table 2-3). `kind` is none for an unknown code (R172). -/
structure Command where
  kind : Option Kind
  tag : Tag
  clip : Bool
  keyed : Bool
  signal : Bool
  src : SurfaceName
  dst : SurfaceName
  srcOrigin : Origin
  dstOrigin : Origin
  fill : Word
  size : Triple
deriving DecidableEq, Repr

/-- Kind codes (R172). -/
def kindOfCode : Nat → Option Kind
  | 1 => some .move
  | 2 => some .fill
  | 3 => some .fence
  | _ => none

/-- The command record in the first seven words of a list (Table 9-5). -/
def decodeCommand (words : List Word) : Command :=
  let w (i : Nat) : Word := words.getD i 0
  { kind := kindOfCode (field (w 0) 0 4)
    tag := (w 0).extractLsb' 8 8
    clip := flag (w 0) 4
    keyed := flag (w 0) 5
    signal := flag (w 0) 6
    src := { index := field (w 1) 0 5, generation := (w 1).extractLsb' 8 4 }
    dst := { index := field (w 1) 16 5, generation := (w 1).extractLsb' 24 4 }
    srcOrigin := { x := signedField (w 2) 0, y := signedField (w 2) 16, z := signedField (w 3) 0 }
    dstOrigin := { x := signedField (w 3) 16, y := signedField (w 4) 0, z := signedField (w 4) 16 }
    fill := w 2
    size := { x := field (w 5) 0 16, y := field (w 5) 16 16, z := field (w 6) 0 16 } }

/-- LAST of a link word: bit 0 (R132). -/
def linkLast (w : Word) : Bool :=
  flag w 0

/-- Next address of a link word: bits 31 to 5, bits 4 to 0 taken as 0 (R132). -/
def linkNext (w : Word) : Word :=
  w &&& 0xFFFFFFE0#32

/-- The fields of SURFACE_STAGING (Table 9-6). `shape` is none for an unknown code (R173). -/
structure Staged where
  shape : Option Shape
  elementSize : BitVec 4
  readable : Bool
  writable : Bool
  keyPresent : Bool
  bindingPresent : Bool
  line : LineIndex
  burst : BitVec 5
  base : Word
  xExtent : BitVec 16
  yExtent : BitVec 16
  zExtent : BitVec 16
  rowPitch : Word
  slicePitch : Word
  key : Word
deriving DecidableEq, Repr

/-- Shape codes (R173). -/
def shapeOfCode : Nat → Option Shape
  | 1 => some .line
  | 2 => some .plane
  | 3 => some .volume
  | 4 => some .port
  | _ => none

/-- A two-bit line number as a line. -/
def lineOfBits (b : BitVec 2) : LineIndex :=
  b.toFin

/-- The staging words decoded (Table 9-6). -/
def decodeStaging (words : Vector Word 7) : Staged :=
  { shape := shapeOfCode (field words[0] 0 3)
    elementSize := words[0].extractLsb' 4 4
    readable := flag words[0] 8
    writable := flag words[0] 9
    keyPresent := flag words[0] 10
    bindingPresent := flag words[0] 11
    line := lineOfBits (words[0].extractLsb' 12 2)
    burst := words[0].extractLsb' 16 5
    base := words[1]
    xExtent := words[2].extractLsb' 0 16
    yExtent := words[2].extractLsb' 16 16
    zExtent := words[3].extractLsb' 0 16
    rowPitch := words[4]
    slicePitch := words[5]
    key := words[6] }

end Sys2Proof.Machine
end

