-- ==== Sys2Proof/Machine/Ops.lean ====
section
/-! DEFINITION. The named operations over the state's registers and tables, which every block uses: reading and writing one
mover, line or surface entry, what an entry names, and the references it holds (spec/01, section 1.6). -/

namespace Sys2Proof.Machine

def State.mover (s : State) (m : MoverIndex) : Mover :=
  s.movers[m]

def State.setMover (s : State) (m : MoverIndex) (v : Mover) : State :=
  { s with movers := s.movers.set m v }

def State.line (s : State) (n : LineIndex) : PacingLine :=
  s.lines[n]

def State.setLine (s : State) (n : LineIndex) (v : PacingLine) : State :=
  { s with lines := s.lines.set n v }

def State.surface (s : State) (i : SurfaceIndex) : Surface :=
  s.surfaces[i]

def State.setSurface (s : State) (i : SurfaceIndex) (v : Surface) : State :=
  { s with surfaces := s.surfaces.set i v }

/-- An index operand as an entry of the table: none for 24 or more (R9, R13, R26). -/
def surfaceIndex (n : Nat) : Option SurfaceIndex :=
  if h : n < 24 then some ⟨n, h⟩ else none

/-- The distinct surfaces that an entry names (R16). -/
def Entry.surfaces (e : Entry) : List SurfaceIndex :=
  match e.src, e.dst with
  | some a, some b => if a.surface = b.surface then [b.surface] else [a.surface, b.surface]
  | some a, none => [a.surface]
  | none, some b => [b.surface]
  | none, none => []

/-- The effective count ew·eh·ed (R34). -/
def Entry.effective (e : Entry) : Nat :=
  e.size.x * e.size.y * e.size.z

/-- A MOVE or FILL whose effective rectangle is empty (R34). -/
def Entry.isEmpty (e : Entry) : Bool :=
  e.kind != .fence && e.effective == 0

/-- Transfers in flight (R67), mover 0's first. -/
def State.inFlight (s : State) : List Entry :=
  [(0 : MoverIndex), 1].filterMap fun m => (s.mover m).transfer

/-- Both movers IDLE (R60). -/
def State.moversIdle (s : State) : Bool :=
  (s.mover 0).state == .idle && (s.mover 1).state == .idle

/-- Free slots of the command queue (R47). -/
def State.freeSlots (s : State) : Nat :=
  Config.queueCapacity - s.queue.length

/-- Whether the completion queue has room (R121). -/
def State.hasSlot (s : State) : Bool :=
  s.completions.length < Config.completionCapacity

/-- A surface entry passes to FREE: its FREED_SET bit is set (R19). -/
def State.free (s : State) (i : SurfaceIndex) : State :=
  let s := s.setSurface i { s.surface i with state := .free }
  { s with freedSet := s.freedSet ||| (1#24 <<< i.val) }

/-- One reference taken at acceptance (R16). -/
def State.addRef (s : State) (i : SurfaceIndex) : State :=
  s.setSurface i { s.surface i with refcount := (s.surface i).refcount + 1 }

/-- One reference returned: a DRAINING entry that falls to 0 becomes FREE and raises FREED (R17, R18, R20). -/
def State.returnRef (s : State) (i : SurfaceIndex) : State :=
  let s := s.setSurface i { s.surface i with refcount := (s.surface i).refcount - 1 }
  if (s.surface i).refcount = 0 ∧ (s.surface i).state = .draining then (s.free i).raise .freed else s

/-- The references an accepted command takes, one per distinct surface (R16). -/
def State.addRefs (s : State) (e : Entry) : State :=
  e.surfaces.foldl State.addRef s

/-- The references a command returns, one per distinct surface (R17, R18). -/
def State.returnRefs (s : State) (e : Entry) : State :=
  e.surfaces.foldl State.returnRef s

end Sys2Proof.Machine
end

