-- ==== Sys2Proof/Machine/Arbiter.lean ====
section
/-! DEFINITION. The master-port arbiter (spec/09, R178): requests, grants, the rotation order, and freeing the port. -/

namespace Sys2Proof.Machine

/-- The request that a requester has waiting. -/
def State.waiting (s : State) : Requester → Option Burst
  | .mover m => (s.mover m).request
  | .reader => s.reader.request

/-- The mover with its request at the arbiter (R88). -/
def Mover.requesting (mv : Mover) (b : Option Burst) : Mover :=
  { mv with request := b }

/-- The list reader with its request at the arbiter (R137). -/
def ListReader.requesting (r : ListReader) (b : Option Burst) : ListReader :=
  { r with request := b }

/-- Sets or clears a requester's waiting request. -/
def State.setWaiting (s : State) (r : Requester) (b : Option Burst) : State :=
  match r with
  | .mover m => s.setMover m ((s.mover m).requesting b)
  | .reader => { s with reader := s.reader.requesting b }

/-- The requester granted moves to the last place; the other two keep their order (R178). -/
def rotate (order : List Requester) (r : Requester) : List Requester :=
  order.erase r ++ [r]

/-- A grant: the burst is in progress, and the rotation order turns (R178). -/
def State.grantTo (s : State) (r : Requester) (b : Burst) : State :=
  { s with
    grant := some { owner := r, live := true, burst := b }
    rotation := rotate s.rotation r }

/-- A request: granted in its own event while the port is free, else it waits (R178). -/
def State.requestBurst (s : State) (r : Requester) (b : Burst) : State :=
  match s.grant with
  | none => s.grantTo r b
  | some _ => s.setWaiting r (some b)

/-- The waiting requester that stands first in the rotation order. -/
def State.firstWaiting (s : State) : Option Requester :=
  s.rotation.find? fun r => (s.waiting r).isSome

/-- The port is freed: the waiting requester first in the rotation order is granted in that event (R177, R178). -/
def State.releasePort (s : State) : State :=
  let s := { s with grant := none }
  match s.firstWaiting with
  | none => s
  | some r =>
    match s.waiting r with
    | none => s
    | some b => (s.setWaiting r none).grantTo r b

/-- Two requests that one event brings to a free port may be taken in either order (R178): a free value (log 9) says
whether the later one, which still waits, is granted in place of the first. `before` is the state before the
requests. -/
def State.eitherOrder (before after : State) : State :=
  match before.grant, after.grant, after.firstWaiting with
  | none, some g, some r =>
    match after.waiting r with
    | none => after
    | some b =>
      let t := { after with draws := after.draws + 1 }
      if Config.laterRequestFirst after.draws then
        { ((t.setWaiting r none).setWaiting g.owner (some g.burst)) with rotation := before.rotation }.grantTo r b
      else t
  | _, _, _ => after

/-- A requester that goes while its burst is in progress: the burst completes on the bus, and its answers reach
nobody (R143, R163, R179). -/
def State.disown (s : State) (r : Requester) : State :=
  match s.grant with
  | some g => if g.owner = r then { s with grant := some { g with live := false } } else s
  | none => s

end Sys2Proof.Machine
end

