-- ==== Sys2Proof/Machine/Units.lean ====
section
/-! DEFINITION. What one transfer consists of: its segments or port bursts in traversal order, the runs of each, and the
master-port bursts that read and write them (spec/04, sections 4.3 and 4.4; spec/09, R176). -/

namespace Sys2Proof.Machine

def Surface.isPort (f : Surface) : Bool :=
  f.shape == some .port

/-- The address of an element, at full precision (R3). Every element of a PORT is at its base. -/
def Surface.address (f : Surface) (p : Triple) : Nat :=
  if f.isPort then f.base.toNat
  else f.base.toNat + p.z * f.slicePitch.toNat + p.y * f.rowPitch.toNat + p.x * f.elementSize.toNat

def Triple.add (a b : Triple) : Triple :=
  { x := a.x + b.x, y := a.y + b.y, z := a.z + b.z }

/-- Division rounded up. -/
def ceilDiv (a b : Nat) : Nat :=
  (a + b - 1) / b

/-! ### The units of a transfer -/

/-- A run: consecutive elements of one row of the effective rectangle (R75, R82). -/
structure Run where
  offset : Triple
  length : Nat
deriving DecidableEq, Repr

/-- S, the full segment length in elements (R75). -/
def segmentLength (elementBytes : Nat) : Nat :=
  Config.segmentBytes / elementBytes

/-- Segment `p` of a transfer: rows and pieces from the low end in ascending traversal (R75), from the high end in
descending traversal (R76). -/
def segmentRun (e : Entry) (full p : Nat) : Run :=
  let perRow := ceilDiv e.size.x full
  let row := if e.descending then e.size.y * e.size.z - 1 - p / perRow else p / perRow
  let cut := p % perRow * full
  let length := min full (e.size.x - cut)
  { offset :=
      { x := if e.descending then e.size.x - cut - length else cut
        y := row % e.size.y
        z := row / e.size.y }
    length := length }

/-- The runs of `n` elements from element `i` in ascending order; a run ends at a row end (R82). The first argument
bounds the number of runs. -/
def burstRuns (e : Entry) : Nat → Nat → Nat → List Run
  | 0, _, _ => []
  | fuel + 1, i, n =>
    if n = 0 then []
    else
      let length := min n (e.size.x - i % e.size.x)
      { offset :=
          { x := i % e.size.x
            y := i / e.size.x % e.size.y
            z := i / (e.size.x * e.size.y) }
        length := length } :: burstRuns e fuel (i + length) (n - length)

/-- The PORT surface of a transfer, if it has a PORT side (R32). -/
def State.portSurface (s : State) (e : Entry) : Option Surface :=
  ((e.src.toList ++ e.dst.toList).map fun d => s.surface d.surface).find? Surface.isPort

/-- Bytes per element of a transfer; both sides of a MOVE agree (R44). -/
def State.elementBytes (s : State) (e : Entry) : Nat :=
  match e.dst with
  | some d => (s.surface d.surface).elementSize.toNat
  | none => 0

/-- How many segments (R75) or bursts (R82) a transfer has. -/
def State.unitCount (s : State) (e : Entry) : Nat :=
  match s.portSurface e with
  | none => ceilDiv e.size.x (segmentLength (s.elementBytes e)) * (e.size.y * e.size.z)
  | some f => ceilDiv e.effective f.burst.toNat

/-- The runs of unit `p`: one for a segment, one or more for a port burst. -/
def State.unitRuns (s : State) (e : Entry) (p : Nat) : List Run :=
  match s.portSurface e with
  | none => [segmentRun e (segmentLength (s.elementBytes e)) p]
  | some f =>
    let b := f.burst.toNat
    burstRuns e b (p * b) (min b (e.effective - p * b))

/-- Elements of a list of runs. -/
def runElements (runs : List Run) : Nat :=
  (runs.map Run.length).sum

/-- Elements of unit `p`. -/
def State.unitElements (s : State) (e : Entry) (p : Nat) : Nat :=
  runElements (s.unitRuns e p)

/-! ### Beats and bursts -/

/-- The lanes of a beat that hold a byte; the first cell is lane `i`. -/
def laneMask : Nat → List (Option Byte) → BitVec 4
  | _, [] => 0
  | i, c :: cs => (if c.isSome then 1#4 <<< i else 0) ||| laneMask (i + 1) cs

/-- One beat from the cells of its lanes: a cell without a byte is a lane not enabled (R77, R80). -/
def packBeat (address : Nat) (cells : List (Option Byte)) : Beat :=
  { address := BitVec.ofNat 32 address, enables := laneMask 0 cells, bytes := cells.filterMap id }

/-- Beats over consecutive cells, four lanes at a time, from a word address. -/
def packBeats (address : Nat) : List (Option Byte) → List Beat
  | [] => []
  | a :: b :: c :: d :: rest => packBeat address [a, b, c, d] :: packBeats (address + 4) rest
  | cells => [packBeat address cells]

/-- The beats over a byte range from the word of its first byte to the word of its last (R77, R78). -/
def coverBeats (address : Nat) (cells : List (Option Byte)) : List Beat :=
  packBeats (address - address % 4) (List.replicate (address % 4) none ++ cells)

/-- A list cut into pieces of `n`, the last the rest; the first argument bounds the number of pieces. -/
def cut {α : Type} (n : Nat) : Nat → List α → List (List α)
  | 0, _ => []
  | _ + 1, [] => []
  | fuel + 1, a :: l => (a :: l).take n :: cut n fuel ((a :: l).drop n)

def mkBurst (form : BurstForm) (write : Bool) (beats : List Beat) : Burst :=
  { form := form
    write := write
    start := (beats.head?.map Beat.address).getD 0
    length := beats.length
    beats := beats }

/-- Incrementing bursts of up to 16 beats, every one but the last of 16 (R77). -/
def incrementingBursts (write : Bool) (beats : List Beat) : List Burst :=
  (cut Config.maxBeats beats.length beats).map (mkBurst .incrementing write)

/-- A beat of a read drives no data. -/
def Beat.asRead (b : Beat) : Beat :=
  { b with bytes := [] }

/-- The read bursts of a byte range in memory (R77). -/
def readBursts (address bytes : Nat) : List Burst :=
  incrementingBursts false ((coverBeats address (List.replicate bytes (some 0))).map Beat.asRead)

/-- The read bursts of the memory runs of a unit, run after run (R77, R82). -/
def readRuns (f : Surface) (origin : Triple) (runs : List Run) : List Burst :=
  runs.flatMap fun r => readBursts (f.address (origin.add r.offset)) (r.length * f.elementSize.toNat)

/-- The write bursts of the memory runs of a unit; `cells` are its bytes in element order, none for a byte of a
skipped element (R78, R80, R82). -/
def writeRuns (f : Surface) (origin : Triple) : List Run → List (Option Byte) → List Burst
  | [], _ => []
  | r :: rs, cells =>
    let bytes := r.length * f.elementSize.toNat
    incrementingBursts true (coverBeats (f.address (origin.add r.offset)) (cells.take bytes))
      ++ writeRuns f origin rs (cells.drop bytes)

/-- One port access: address base, the lanes that base selects (R83). -/
def portBeat (f : Surface) (bytes : List Byte) : Beat :=
  { address := f.base
    enables := laneMask (f.base.toNat % 4) (List.replicate f.elementSize.toNat (some 0))
    bytes := bytes }

/-- The port side of a burst: one fixed burst for 4-byte elements, else one single-beat access per element; nothing
where no element is left (R83, R85). -/
def portBursts (f : Surface) (write : Bool) (elements : List (List Byte)) : List Burst :=
  let beats := elements.map (portBeat f)
  if f.elementSize.toNat = 4 then
    if beats.isEmpty then [] else [mkBurst .fixed write beats]
  else beats.map fun b => mkBurst .single write [b]

/-! ### The two sides of a unit -/

/-- The buffer cut into elements. -/
def elementsOf (elementBytes : Nat) (buffer : List Byte) : List (List Byte) :=
  cut elementBytes buffer.length buffer

/-- Whether a source element is skipped: KEYED, and equal to the source surface's key over all element_size
bytes (R37, R80). -/
def State.skips (s : State) (e : Entry) (element : List Byte) : Bool :=
  e.keyed &&
    match e.src with
    | none => false
    | some d =>
      match (s.surface d.surface).key with
      | none => false
      | some k => element == wordBytes (s.elementBytes e) k

/-- The bursts of the read side of unit `p` of a MOVE (R77, R84, R85). -/
def State.readPlan (s : State) (e : Entry) (p : Nat) : List Burst :=
  match e.src with
  | none => []
  | some d =>
    let f := s.surface d.surface
    if f.isPort then portBursts f false (List.replicate (s.unitElements e p) [])
    else readRuns f d.origin (s.unitRuns e p)

/-- The bytes of an element to write, or as many lanes left disabled where it is skipped (R80). -/
def State.cellsOf (s : State) (e : Entry) (element : List Byte) : List (Option Byte) :=
  if s.skips e element then List.replicate element.length none else element.map some

/-- The bursts of the write side of unit `p`: a skipped element keeps its beat with clear byte enables in memory
(R80, R84), and makes no port access (R85). -/
def State.writePlan (s : State) (e : Entry) (p : Nat) (elements : List (List Byte)) : List Burst :=
  match e.dst with
  | none => []
  | some d =>
    let f := s.surface d.surface
    if f.isPort then portBursts f true (elements.filter fun el => !s.skips e el)
    else writeRuns f d.origin (s.unitRuns e p) (elements.flatMap (s.cellsOf e))

/-- The elements a FILL writes in unit `p`: the low element_size bytes of the fill value, again and again
(R29, R79). -/
def State.fillElements (s : State) (e : Entry) (p : Nat) : List (List Byte) :=
  List.replicate (s.unitElements e p) (wordBytes (s.elementBytes e) e.fill)

/-! ### Running a side -/

/-- The bursts that the mover has still to request (R77). -/
def Mover.queued (mv : Mover) (bursts : List Burst) : Mover :=
  { mv with bursts := bursts }

/-- Starts a side: its first burst is requested, the rest wait their turn (R77, R88). -/
def State.launch (s : State) (m : MoverIndex) (bursts : List Burst) : State :=
  match bursts with
  | [] => s.setMover m ((s.mover m).queued [])
  | b :: bs => (s.setMover m ((s.mover m).queued bs)).requestBurst (.mover m) b

end Sys2Proof.Machine
end

