-- ==== Sys2Proof/Machine/Pacing.lean ====
section
/-! DEFINITION. Starting a unit of a transfer, and the pacing lines: binding, admission, burst ends, the timer, and the
return to IDLE (spec/05; spec/04, R74, R87). -/

namespace Sys2Proof.Machine

/-- The mover begins a unit on one of its sides, the buffer empty. -/
def Mover.beginUnit (mv : Mover) (side : Direction) : Mover :=
  { mv with side := side, buffer := [], matched := 0 }

/-- The mover in another of its states (R73). -/
def Mover.inState (mv : Mover) (st : MoverState) : Mover :=
  { mv with state := st }

/-- The mover in RUN starts the unit at its position: the read side of a MOVE, the write side of a FILL (R74, R81). -/
def State.startUnit (s : State) (m : MoverIndex) : State :=
  let mv := s.mover m
  match mv.transfer with
  | none => s
  | some t =>
    if t.kind = .fill then
      (s.setMover m (mv.beginUnit .write)).launch m
        (s.writePlan t mv.position (s.fillElements t mv.position))
    else
      (s.setMover m (mv.beginUnit .read)).launch m (s.readPlan t mv.position)

/-- The level of PACKn: active only while the line is in BURST (R98). Where one event takes the line from one burst into
the next, PACKn goes inactive and active again inside it, and the count of its pulses shows it (R98, R103; log 28). -/
def State.packActive (s : State) (n : LineIndex) : Bool :=
  (s.line n).state == .burst

/-- A line as it goes to IDLE, for any outcome or a reset (R113, R116): timer stopped, end-seen latch clear, bound mover
NONE. PREQn and the configuration stay. -/
def PacingLine.released (l : PacingLine) : PacingLine :=
  { l with state := .idle, bound := none, timerRunning := false, endSeen := false }

/-- The line goes to IDLE (R113). -/
def State.idleLine (s : State) (n : LineIndex) : State :=
  s.setLine n (s.line n).released

/-- The timer loaded with the latched timeout: it runs unless that is 0 (R107). -/
def PacingLine.loadTimer (l : PacingLine) : PacingLine :=
  { l with timerCount := l.latchedTimeout, timerRunning := l.latchedTimeout != 0 }

/-- The line in another of its states (R97). -/
def PacingLine.inState (l : PacingLine) (st : LineState) : PacingLine :=
  { l with state := st }

/-- The line leaves BURST at a burst end and PACKn goes inactive; it waits, unless the same event admits the next burst
(R98, R103). -/
def PacingLine.burstOver (l : PacingLine) : PacingLine :=
  l.loadTimer.inState .wait

/-- The line admits a burst: BURST, PACKn active with a new pulse, the timer stopped with its count kept (R98, R102,
R107). -/
def PacingLine.admitting (l : PacingLine) : PacingLine :=
  { l with state := .burst, timerRunning := false, pulses := l.pulses + 1 }

/-- The PACKn pulses of the transfer that the line was last bound to (R183). -/
def PacingLine.pulsesOfTransfer (l : PacingLine) : Nat :=
  l.pulses - l.pulsesBefore

/-- The line takes a mover's transfer: mode and timeout latched, the end-seen latch clear (R101), the transfer's pulses
counted from here (R183). -/
def PacingLine.bindTo (l : PacingLine) (m : MoverIndex) : PacingLine :=
  { l with
    bound := some m, latchedMode := l.mode, latchedTimeout := l.timeout, endSeen := false, pulsesBefore := l.pulses }

/-- Admission of a burst (R102): BURST, timer stopped with its count kept, and the bound mover runs the burst. -/
def State.admitBurst (s : State) (n : LineIndex) (m : MoverIndex) : State :=
  let s := s.setLine n (s.line n).admitting
  (s.setMover m ((s.mover m).inState .run)).startUnit m

/-- The line waits in the given state and its mover is in PACE. -/
def State.waitIn (s : State) (n : LineIndex) (m : MoverIndex) (st : LineState) : State :=
  let s := s.setLine n ((s.line n).inState st)
  s.setMover m ((s.mover m).inState .pace)

/-- Binding of a paced transfer, in the event of its issue (R101). -/
def State.bind (s : State) (n : LineIndex) (m : MoverIndex) : State :=
  let l := s.line n
  if l.request then (s.setLine n (l.bindTo m)).admitBurst n m
  else (s.setLine n (l.bindTo m).loadTimer).waitIn n m .wait

/-- A burst end after which the transfer continues (R103, R104): the line leaves BURST, and in DEMAND with PREQn active
admits the next burst, a new pulse of PACKn. -/
def State.burstContinues (s : State) (n : LineIndex) (m : MoverIndex) : State :=
  let s := s.setLine n (s.line n).burstOver
  match (s.line n).latchedMode, (s.line n).request with
  | .demand, true => s.admitBurst n m
  | .demand, false => s.waitIn n m .wait
  | .step, true => s.waitIn n m .waitLow
  | .step, false => s.waitIn n m .wait

/-- A tick at one line: a running timer counts down by one (R107). A timer already at 0 waits for its expiry. -/
def PacingLine.tick (l : PacingLine) : PacingLine :=
  if l.timerRunning && l.timerCount != 0 then { l with timerCount := l.timerCount - 1 } else l

/-- The line's timer has reached 0 and its expiry has not been taken (R107). -/
def PacingLine.expired (l : PacingLine) : Bool :=
  (l.state == .wait || l.state == .waitLow) && l.timerRunning && l.timerCount == 0

end Sys2Proof.Machine
end

