-- ==== Sys2Proof/Machine/CompletionQueue.lean ====
section
/-! DEFINITION. The completion queue: posting a record, and the movers as posters (spec/06; spec/04, R92 to R94). -/

namespace Sys2Proof.Machine

/-- A record enters the queue (R121): it takes the sequence number and the counter advances (R120), the COMPLETION
cause is checked (R128), and SIGNAL is set for a record that carries it (R129). -/
def State.appendRecord (s : State) (r : Completion) : State :=
  let s := { s with
    completions := s.completions ++ [{ r with sequence := s.sequence }]
    sequence := s.sequence + 1 }
  (s.raiseIf (s.completionThreshold ≤ s.completions.length) .completion).raiseIf r.signal .signal

/-- The record of a transfer that has ended on a mover (R92). The queue gives the sequence number at posting. -/
def moverRecord (m : MoverIndex) (mv : Mover) (t : Entry) (o : Outcome) : Completion where
  tag := t.tag
  kind := t.kind
  outcome := o
  mover := some m
  signal := t.signal
  sequence := 0
  moved := mv.moved
  skipped := mv.skipped
  clipped := t.clipped
  fault := mv.fault

/-- A record of the dispatcher (R59, R60, R61): mover NONE, moved 0, skipped 0, clipped as fixed at acceptance. -/
def dispatcherRecord (e : Entry) (o : Outcome) : Completion where
  tag := e.tag
  kind := e.kind
  outcome := o
  mover := none
  signal := e.signal
  sequence := 0
  moved := 0
  skipped := 0
  clipped := e.clipped
  fault := none

/-- A mover in POST whose slot can be granted posts its record (R94, R121): it returns to IDLE, its span in flight
ends and its references are returned, in one event. -/
def State.serveMover (s : State) (m : MoverIndex) : State :=
  let mv := s.mover m
  match mv.transfer, mv.outcome with
  | some t, some o =>
    if mv.state = .post ∧ s.hasSlot then
      ((s.appendRecord (moverRecord m mv t o)).setMover m Mover.idle).returnRefs t
    else s
  | _, _ => s

end Sys2Proof.Machine
end

