-- ==== Sys2Proof/Machine/CommandQueue.lean ====
section
/-! DEFINITION. The dispatcher at the head of the command queue: hazard and line checks, issue, the records it posts
itself, removal of the head with its LOW_WATER check, and the wait reason (spec/03). -/

namespace Sys2Proof.Machine

/-- Two closed byte ranges intersect (R38). -/
def Range.intersects (a b : Range) : Bool :=
  a.lo ≤ b.hi && b.lo ≤ a.hi

/-- Two footprints, each of which may be absent, intersect. -/
def footprintsMeet (a b : Option Range) : Bool :=
  match a, b with
  | some a, some b => a.intersects b
  | _, _ => false

/-- The read footprint of an entry (R38). -/
def Entry.reads (e : Entry) : Option Range :=
  e.src.bind Side.footprint

/-- The write footprint of an entry (R38). -/
def Entry.writes (e : Entry) : Option Range :=
  e.dst.bind Side.footprint

/-- The hazard check between two commands (R64): some pair of footprints intersects and at least one is written. -/
def Entry.conflicts (a b : Entry) : Bool :=
  footprintsMeet a.reads b.writes || footprintsMeet a.writes b.reads || footprintsMeet a.writes b.writes

/-- The line check between two commands (R65): both record the same pacing line. -/
def Entry.sharesLine (a b : Entry) : Bool :=
  a.line.isSome && a.line == b.line

/-- The lowest-numbered IDLE mover (R63). -/
def State.idleMover (s : State) : Option MoverIndex :=
  if (s.mover 0).state = .idle then some 0
  else if (s.mover 1).state = .idle then some 1
  else none

/-- What the dispatcher does with its head entry (Table 3-2). -/
inductive Decision where
  /-- Post a record with this outcome, once a completion slot is granted. -/
  | report (o : Outcome)
  /-- Hold the head for this reason. -/
  | hold (r : WaitReason)
  /-- Issue to this mover. -/
  | issue (m : MoverIndex)
deriving DecidableEq, Repr

/-- The decision on the head entry in RUN: the rows of Table 3-2 from the top, and the first of HAZARD, LINE and MOVER
that holds it (R57, R63, R68). A cancelled entry is reported before any hazard check (R59, R150), so its record may stand
ahead of that of a transfer in flight it conflicts with, which the third bullet of R182 excludes: DEDUCED (log 29). -/
def State.decision (s : State) (e : Entry) : Decision :=
  if e.cancelled then .report .aborted
  else if e.kind = .fence then
    if s.moversIdle then .report .fence else .hold .fence
  else if e.isEmpty then .report .done
  else if s.inFlight.any e.conflicts then .hold .hazard
  else if s.inFlight.any e.sharesLine then .hold .line
  else
    match s.idleMover with
    | none => .hold .mover
    | some m => .issue m

/-- Removal of the head (R53): the LOW_WATER check (R55), and a presentation due to a list reader in
WAIT_SPACE (R51). -/
def State.removeHead (s : State) : State :=
  let s := { s with queue := s.queue.tail }
  let s := s.raiseIf (s.freeSlots = s.lowWater) .lowWater
  { s with reader := { s.reader with due := s.reader.due || s.reader.state == .waitSpace } }

/-- The dispatcher posts the head's record and removes it in one event (R59, R60, R61). -/
def State.report (s : State) (e : Entry) (o : Outcome) : State :=
  ((s.appendRecord (dispatcherRecord e o)).removeHead).returnRefs e

/-- The items of a mover that takes a transfer (R74). -/
def Mover.take (e : Entry) : Mover :=
  { Mover.idle with state := if e.line.isSome then .pace else .run, transfer := some e }

/-- Issue of the head to a mover (R66): the entry becomes the mover's transfer, an unpaced one starts its first unit,
a paced one binds to its line. -/
def State.issue (s : State) (e : Entry) (m : MoverIndex) : State :=
  let s := s.removeHead.setMover m (Mover.take e)
  match e.line with
  | none => s.startUnit m
  | some n => s.bind n m

/-- The head waits, or the queue is empty: wait reason and slot request (R62, R68). -/
def State.setWait (s : State) (r : WaitReason) (slot : Bool) : State :=
  { s with dispatcher := { s.dispatcher with waitReason := r, slotRequest := slot } }

/-- Examination of the head, again at each head that a removal brings (R57); the first argument bounds the removals.
In HALT nothing is examined (R69). -/
def State.examineHead : Nat → State → State
  | 0, s => s
  | fuel + 1, s =>
    if s.dispatcher.halted then s
    else
      match s.queue with
      | [] => s.setWait .none false
      | e :: _ =>
        match s.decision e with
        | .report o => if s.hasSlot then State.examineHead fuel (s.report e o) else s.setWait .space true
        | .hold r => s.setWait r false
        | .issue m => State.examineHead fuel (s.issue e m)

/-- The dispatcher examines the head, and every next head that its removals bring (R57). -/
def State.examine (s : State) : State :=
  State.examineHead (s.queue.length + 1) s

/-- The posters of one event in the fixed order mover 0, mover 1, dispatcher (R121, R122). -/
def State.settle (s : State) : State :=
  ((s.serveMover 0).serveMover 1).examine

end Sys2Proof.Machine
end

