-- ==== Sys2Proof/Machine/Acceptance.lean ====
section
/-! DEFINITION. Acceptance of a transfer command: clipping, footprints, direction, the checks of Table 2-5 in order, and
the entry an accepted command becomes (spec/02). -/

namespace Sys2Proof.Machine

/-! ### Clipping (section 2.4) -/

/-- One bounded side on one axis: its origin and its extent (R33). -/
structure Bound where
  origin : Int
  extent : Nat
deriving DecidableEq, Repr

/-- L: the largest of 0 and −o for each bounded side (R33). -/
def axisLow (bounds : List Bound) : Int :=
  bounds.foldl (fun l b => max l (-b.origin)) 0

/-- U: the smallest of n and E − o for each bounded side (R33). -/
def axisHigh (n : Nat) (bounds : List Bound) : Int :=
  bounds.foldl (fun u b => min u (b.extent - b.origin)) n

/-- The count of valid offsets of an axis (R33). -/
def axisCount (n : Nat) (bounds : List Bound) : Nat :=
  (axisHigh n bounds - axisLow bounds).toNat

/-- A named side of a command with its surface. -/
structure NamedSide where
  index : SurfaceIndex
  surface : Surface
  origin : Origin
deriving DecidableEq, Repr

/-- The bounded sides on the three axes; a PORT side has no bound (R32, R33). -/
def boundsX (sides : List NamedSide) : List Bound :=
  (sides.filter fun d => !d.surface.isPort).map fun d => { origin := d.origin.x, extent := d.surface.xExtent.toNat }

def boundsY (sides : List NamedSide) : List Bound :=
  (sides.filter fun d => !d.surface.isPort).map fun d => { origin := d.origin.y, extent := d.surface.yExtent.toNat }

def boundsZ (sides : List NamedSide) : List Bound :=
  (sides.filter fun d => !d.surface.isPort).map fun d => { origin := d.origin.z, extent := d.surface.zExtent.toNat }

/-- The effective size (ew, eh, ed) (R34). -/
def effectiveSize (size : Triple) (sides : List NamedSide) : Triple :=
  { x := axisCount size.x (boundsX sides)
    y := axisCount size.y (boundsY sides)
    z := axisCount size.z (boundsZ sides) }

/-- Elements of a size. -/
def Triple.volume (t : Triple) : Nat :=
  t.x * t.y * t.z

/-- The effective origin of a side (R34): its origin plus the lower ends; (0, 0, 0) for a PORT. -/
def effectiveOrigin (sides : List NamedSide) (d : NamedSide) : Triple :=
  if d.surface.isPort then { x := 0, y := 0, z := 0 }
  else
    { x := (d.origin.x + axisLow (boundsX sides)).toNat
      y := (d.origin.y + axisLow (boundsY sides)).toNat
      z := (d.origin.z + axisLow (boundsZ sides)).toNat }

/-- The effective footprint of one side (R38): none when the effective rectangle is empty. -/
def footprint (f : Surface) (origin size : Triple) : Option Range :=
  if size.volume = 0 then none
  else if f.isPort then some { lo := f.base.toNat, hi := f.base.toNat + f.elementSize.toNat - 1 }
  else
    let last : Triple := { x := origin.x + size.x - 1, y := origin.y + size.y - 1, z := origin.z + size.z - 1 }
    some { lo := f.address origin, hi := f.address last + f.elementSize.toNat - 1 }

/-- The side as the entry holds it (Table 2-6). -/
def NamedSide.accepted (sides : List NamedSide) (size : Triple) (d : NamedSide) : Side :=
  let origin := effectiveOrigin sides d
  { surface := d.index, origin := origin, footprint := footprint d.surface origin (effectiveSize size sides) }

/-! ### Conditions on one command -/

/-- The translation vector (dz − sz, dy − sy, dx − sx) is greater than zero, z component first (R40). -/
def vectorPositive (src dst : Origin) : Bool :=
  if dst.z ≠ src.z then src.z < dst.z
  else if dst.y ≠ src.y then src.y < dst.y
  else src.x < dst.x

/-- The limits on the size as written (R30). -/
def sizeLegal (t : Triple) : Bool :=
  1 ≤ t.x && t.x ≤ 16384 && 1 ≤ t.y && t.y ≤ 16384 && 1 ≤ t.z && t.z ≤ 1024 && t.volume ≤ 16777216

/-- The shape conditions of one side (R31, Table 2-4); `fillPort` is true for the destination of a FILL. -/
def shapeLegal (fillPort : Bool) (size : Triple) (d : NamedSide) : Bool :=
  match d.surface.shape with
  | some .line => d.origin.y == 0 && d.origin.z == 0 && size.y == 1 && size.z == 1
  | some .plane => d.origin.z == 0 && size.z == 1
  | some .volume => true
  | some .port => !fillPort || (size.y == 1 && size.z == 1)
  | none => false

/-- The clipped count (R34). -/
def clippedCount (size : Triple) (sides : List NamedSide) : Nat :=
  size.volume - (effectiveSize size sides).volume

/-- BAD_RECT (R45): size, then shape, then clipping. -/
def badRect (c : Command) (sides : List NamedSide) : Bool :=
  !sizeLegal c.size || !(sides.all (shapeLegal (c.kind == some .fill) c.size))
    || (!c.clip && clippedCount c.size sides != 0)

/-- ALIASED (R39): the two effective footprints of different surfaces intersect. -/
def aliased (size : Triple) (sides : List NamedSide) (a b : NamedSide) : Bool :=
  a.index != b.index && footprintsMeet (a.accepted sides size).footprint (b.accepted sides size).footprint

/-! ### The checks in order -/

/-- The surface a command names, and its entry; none for an index of 24 or more (R26). -/
def State.named (s : State) (name : SurfaceName) (o : Origin) : Option NamedSide :=
  (surfaceIndex name.index).map fun i => { index := i, surface := s.surface i, origin := o }

/-- The surface names of a command, the source before the destination (R43). -/
def Command.names (c : Command) : List (SurfaceName × Origin) :=
  match c.kind with
  | some .move => [(c.src, c.srcOrigin), (c.dst, c.dstOrigin)]
  | some .fill => [(c.dst, c.dstOrigin)]
  | _ => []

/-- One row of Table 2-5: whether it refuses, and its reason. -/
structure Check where
  refuses : Bool
  reason : Reason
deriving DecidableEq, Repr

/-- The first row that refuses. -/
def firstRefusal (checks : List Check) : Option Reason :=
  (checks.find? Check.refuses).map Check.reason

/-- Checks 1 to 3, for every kind (Table 2-5). -/
def State.commandChecks (s : State) (c : Command) : List Check :=
  [ { refuses := Config.queueCapacity ≤ s.queue.length, reason := .full },
    { refuses := c.kind.isNone, reason := .badKind },
    { refuses := (c.clip && c.kind == some .fence) || (c.keyed && c.kind != some .move), reason := .badOption } ]

/-- Checks 4 to 6 on the named entries (R43). A name without an entry counts as FREE. -/
def State.nameChecks (s : State) (c : Command) : List Check :=
  let entries := c.names.map fun n => (n.1, s.named n.1 n.2)
  [ { refuses := entries.any fun e => e.2.all fun d => d.surface.state == .free, reason := .noSurface },
    { refuses := entries.any fun e => e.2.any fun d => d.surface.generation != e.1.generation, reason := .stale },
    { refuses := entries.any fun e => e.2.any fun d => d.surface.state == .draining, reason := .draining } ]

/-- Checks 7 to 12 of a MOVE with its two sides (R43 to R45). -/
def moveChecks (c : Command) (a b : NamedSide) : List Check :=
  [ { refuses := !a.surface.readable, reason := .notReadable },
    { refuses := !b.surface.writable, reason := .notWritable },
    { refuses := a.surface.isPort && b.surface.isPort, reason := .portPair },
    { refuses := a.surface.elementSize != b.surface.elementSize, reason := .sizeMismatch },
    { refuses := c.keyed && a.surface.key.isNone, reason := .noKey },
    { refuses := badRect c [a, b], reason := .badRect },
    { refuses := aliased c.size [a, b] a b, reason := .aliased } ]

/-- Checks 7 and 11 of a FILL with its one side (R43, R45). -/
def fillChecks (c : Command) (b : NamedSide) : List Check :=
  [ { refuses := !b.surface.writable, reason := .notWritable },
    { refuses := badRect c [b], reason := .badRect } ]

/-! ### The entry -/

/-- The pacing line of the PORT side, if it has a binding (R32). -/
def sidesLine (sides : List NamedSide) : Option LineIndex :=
  (sides.find? fun d => d.surface.isPort).bind fun d => d.surface.binding

/-- The entry of an accepted MOVE (Table 2-6). -/
def moveEntry (c : Command) (a b : NamedSide) : Entry :=
  let sides := [a, b]
  let src := a.accepted sides c.size
  let dst := b.accepted sides c.size
  { kind := .move
    tag := c.tag
    clip := c.clip
    keyed := c.keyed
    signal := c.signal
    src := some src
    dst := some dst
    fill := 0
    size := effectiveSize c.size sides
    requested := c.size.volume
    clipped := clippedCount c.size sides
    descending :=
      a.index == b.index && footprintsMeet src.footprint dst.footprint && vectorPositive a.origin b.origin
    line := sidesLine sides
    cancelled := false }

/-- The entry of an accepted FILL (Table 2-6). -/
def fillEntry (c : Command) (b : NamedSide) : Entry :=
  let sides := [b]
  { kind := .fill
    tag := c.tag
    clip := c.clip
    keyed := false
    signal := c.signal
    src := none
    dst := some (b.accepted sides c.size)
    fill := c.fill
    size := effectiveSize c.size sides
    requested := c.size.volume
    clipped := clippedCount c.size sides
    descending := false
    line := sidesLine sides
    cancelled := false }

/-- The entry of an accepted FENCE (Table 2-6): no surface, every count 0. -/
def fenceEntry (c : Command) : Entry where
  kind := .fence
  tag := c.tag
  clip := false
  keyed := false
  signal := c.signal
  src := none
  dst := none
  fill := 0
  size := { x := 0, y := 0, z := 0 }
  requested := 0
  clipped := 0
  descending := false
  line := none
  cancelled := false

/-- An acceptance: the entry, or the reason of the first failing check (R42). -/
inductive Verdict where
  | accepted (e : Entry)
  | refused (r : Reason)
deriving DecidableEq, Repr

/-- The verdict where no check refuses. -/
def verdictOf (refusal : Option Reason) (e : Entry) : Verdict :=
  match refusal with
  | some r => .refused r
  | none => .accepted e

/-- The checks on the sides, once checks 1 to 6 have passed and every name has its entry. -/
def State.sideVerdict (s : State) (c : Command) : Verdict :=
  match c.kind with
  | none => .refused .badKind
  | some .fence => .accepted (fenceEntry c)
  | some .fill =>
    match s.named c.dst c.dstOrigin with
    | none => .refused .noSurface
    | some b => verdictOf (firstRefusal (fillChecks c b)) (fillEntry c b)
  | some .move =>
    match s.named c.src c.srcOrigin, s.named c.dst c.dstOrigin with
    | some a, some b => verdictOf (firstRefusal (moveChecks c a b)) (moveEntry c a b)
    | _, _ => .refused .noSurface

/-- The checks of Table 2-5 in order; the first that fails gives the reason (R42). -/
def State.verdict (s : State) (c : Command) : Verdict :=
  match firstRefusal (s.commandChecks c ++ s.nameChecks c) with
  | some r => .refused r
  | none => s.sideVerdict c

/-- An accepted entry enters the queue behind every other, and takes its references in the same event (R46). -/
def State.enqueue (s : State) (e : Entry) : State :=
  { s.addRefs e with queue := s.queue ++ [e] }

/-- An entry accepted into an empty queue becomes the head at once, and is examined (R49, R57). -/
def State.examineIf (s : State) (wasEmpty : Bool) : State :=
  if wasEmpty then s.examine else s

/-! ### POST -/

/-- A write to POST (R49): one acceptance event for the staged command. POST_RESULT takes the queue count as the
acceptance leaves it (R50), before the examination of a new head. -/
def State.postStaged (s : State) : State :=
  let c := decodeCommand s.commandStaging.toList
  match s.verdict c with
  | .refused r => { s with postResult := { code := .refused r, tag := c.tag, count := s.queue.length } }
  | .accepted e =>
    let t := s.enqueue e
    ({ t with postResult := { code := .accepted, tag := c.tag, count := t.queue.length } }).examineIf s.queue.isEmpty

end Sys2Proof.Machine
end

