-- ==== Sys2Proof/Machine/Lists.lean ====
section
/-! DEFINITION. The list reader: starting, fetching, presenting, ending and stopping a list (spec/07). -/

namespace Sys2Proof.Machine

/-- The reader in FETCH at an address, nothing received yet (R133). -/
def ListReader.fetching (r : ListReader) (address : Word) : ListReader :=
  { r with state := .fetch, current := address, fetched := [], inHand := none, due := false }

/-- The reader in WAIT_SPACE with a record in hand (R139). -/
def ListReader.holding (r : ListReader) (record : Vector Word 8) : ListReader :=
  { r with state := .waitSpace, fetched := [], inHand := some record, due := false }

/-- The reader IDLE at the end of its list: the reason, and the current address as stop address (R133). -/
def ListReader.over (r : ListReader) (why : EndReason) (refusal : Option Reason) : ListReader :=
  { r with
    state := .idle, fetched := [], inHand := none, due := false, request := none
    endReason := why, refusal := refusal, stopAddress := r.current }

/-- Enters FETCH at an address: the fetch of the record there is to be requested. -/
def State.enterFetch (s : State) (address : Word) : State :=
  { s with reader := s.reader.fetching address }

/-- The 8 beats of the fetch of a record (R137). -/
def fetchBeats (address : Word) : List Beat :=
  (List.range Config.listRecordBeats).map fun i =>
    { address := address + BitVec.ofNat 32 (4 * i), enables := 15#4, bytes := [] }

/-- The reader's request for the record at its current address (R137). -/
def State.requestFetch (s : State) : State :=
  s.requestBurst .reader (mkBurst .incrementing false (fetchBeats s.reader.current))

/-- A running list ends (R138, R140, R142, R143): IDLE with its reason, the current address as stop address, LIST
raised (R146). -/
def State.endList (s : State) (why : EndReason) (refusal : Option Reason) : State :=
  { s with reader := s.reader.over why refusal }.raise .list

/-- A presentation: an acceptance event for the record in hand, and what the reader does with its outcome (R138, R139,
R140). -/
def State.present (s : State) (record : Vector Word 8) : State :=
  match s.verdict (decodeCommand record.toList) with
  | .refused .full =>
    { s with reader := s.reader.holding record }
  | .refused r => s.endList .rejected (some r)
  | .accepted e =>
    let t := s.enqueue e
    let t := { t with reader := { t.reader with count := t.reader.count + 1 } }
    if linkLast record[7] then (t.endList .ended none).examineIf s.queue.isEmpty
    else ((t.enterFetch (linkNext record[7])).examineIf s.queue.isEmpty).requestFetch

/-- The eight words of a fetched record, in order. -/
def recordOf (words : List Word) : Vector Word 8 :=
  Vector.ofFn fun i => words.getD i 0

/-- The last beat of the fetch has been answered: the record is presented in the same event (R137). -/
def State.fetchDone (s : State) : State :=
  s.present (recordOf s.reader.fetched)

/-- Stops a running list, as LIST_STOP and FLUSH do (R143, R145): a request is withdrawn, a burst in progress
completes on the bus without its requester, a record in hand is discarded. -/
def State.stopList (s : State) : State :=
  match s.reader.state with
  | .idle => s
  | .fetch | .waitSpace => (s.endList .stopped none).disown .reader

/-- WAIT_SPACE_PRESENTATION (R139): the presentation that follows a removal. None while the dispatcher is in HALT. -/
def State.presentAgain (s : State) : State :=
  if s.reader.state = .waitSpace ∧ s.reader.due ∧ ¬ s.dispatcher.halted then
    match s.reader.inHand with
    | none => s
    | some record => s.eitherOrder (s.present record)
  else s

end Sys2Proof.Machine
end

