-- ==== Sys2Proof/Machine/Movers.lean ====
section
/-! DEFINITION. The movers: the end of a side, of a unit and of a transfer, stop requests, and bus errors (spec/04; the
line's part in spec/05; fault capture in spec/08). -/

namespace Sys2Proof.Machine

/-- The mover in POST with its outcome (R92). -/
def Mover.ended (mv : Mover) (o : Outcome) (fault : Option FaultItem) : Mover :=
  { mv with state := .post, outcome := some o, fault := fault, bursts := [] }

/-- The mover's counts after a unit of `n` elements (R81, R86). -/
def Mover.counted (mv : Mover) (n : Nat) : Mover :=
  { mv with moved := mv.moved + (n - mv.matched), skipped := mv.skipped + mv.matched }

/-- The mover at its next unit. -/
def Mover.advanced (mv : Mover) : Mover :=
  { mv with position := mv.position + 1 }

/-- The mover at the write side of its unit, with how many elements match the key (R77, R80). -/
def Mover.compared (mv : Mover) (matched : Nat) : Mover :=
  { mv with side := .write, matched := matched }

/-- The mover with its stop request set (R89). -/
def Mover.stopping (mv : Mover) : Mover :=
  { mv with stop := true }

/-- The transfer ends with an outcome (R92): the mover enters POST, and a bound line goes to IDLE (R105, R113). -/
def State.finish (s : State) (m : MoverIndex) (o : Outcome) (fault : Option FaultItem) : State :=
  let mv := s.mover m
  let s := s.setMover m (mv.ended o fault)
  match mv.transfer.bind Entry.line with
  | none => s
  | some n => s.idleLine n

/-- The transfer ends, and the event goes on to its posting and the examination of the head (R92, R121). -/
def State.endTransfer (s : State) (m : MoverIndex) (o : Outcome) (fault : Option FaultItem) : State :=
  (s.finish m o fault).settle

/-- A unit completes (R81, R86, R87): the counts advance by the whole unit, and the mover decides at the boundary, DONE
before ABORTED before SHORT (R105), or goes on. -/
def State.unitComplete (s : State) (m : MoverIndex) : State :=
  let mv := s.mover m
  match mv.transfer with
  | none => s
  | some t =>
    let n := s.unitElements t mv.position
    let s := s.setMover m (mv.counted n)
    if s.unitCount t ≤ mv.position + 1 then s.endTransfer m .done none
    else if mv.stop then s.endTransfer m .aborted none
    else
      let next := s.setMover m (s.mover m).advanced
      match t.line with
      | none => next.startUnit m
      | some l => if (s.line l).endSeen then s.endTransfer m .short none else next.burstContinues l m

/-- The read side is answered in full: the elements are compared with the key and the write side begins (R77, R80). A
unit that has nothing to write, every element left out of a port, is complete (R85). -/
def State.startWrite (s : State) (m : MoverIndex) : State :=
  let mv := s.mover m
  match mv.transfer with
  | none => s
  | some t =>
    let elements := elementsOf (s.elementBytes t) mv.buffer
    let s := s.setMover m (mv.compared (elements.countP (s.skips t)))
    match s.writePlan t mv.position elements with
    | [] => s.unitComplete m
    | bursts => s.launch m bursts

/-- A burst of the mover has been answered in full: the next burst of the side, or the end of the side (R77, R88). -/
def State.continueSide (s : State) (m : MoverIndex) : State :=
  let mv := s.mover m
  match mv.bursts with
  | b :: bs => s.launch m (b :: bs)
  | [] =>
    match mv.side with
    | .read => s.startWrite m
    | .write => s.unitComplete m

/-- A line in WAIT or WAIT_LOW ends its bound transfer (R87, R107, R109, R111). -/
def State.endFromLine (s : State) (n : LineIndex) (o : Outcome) : State :=
  match (s.line n).bound with
  | none => s
  | some m => s.eitherOrder (s.endTransfer m o none)

/-- A fault report to the dispatcher (R154, R155): in RUN it is captured, the slot request is withdrawn, HALT is entered
and its cause set; in HALT nothing changes. -/
def State.captureFault (s : State) (r : FaultRecord) : State :=
  if s.dispatcher.halted then s
  else
    { s with dispatcher := { halted := true, waitReason := .none, slotRequest := false, fault := some r } }.raise .halt

/-- A bus error response to a beat of a mover's burst (R90, R112): FAULTED, reported to the dispatcher in that event. -/
def State.moverFault (s : State) (m : MoverIndex) (item : FaultItem) : State :=
  match (s.mover m).transfer with
  | none => s
  | some t =>
    (s.captureFault { mover := m, tag := t.tag, kind := t.kind, item := item }).endTransfer m .faulted (some item)

/-- What ABORT_TAG does to one mover, before any posting (R89, R111, R151). -/
def State.stopMover (s : State) (tag : Tag) (m : MoverIndex) : State :=
  let mv := s.mover m
  match mv.transfer with
  | none => s
  | some t =>
    if t.tag = tag then
      match mv.state with
      | .run => s.setMover m mv.stopping
      | .pace => s.finish m .aborted none
      | .post | .idle => s
    else s

/-- A transfer that an ABORT_TAG hits: its mover is in RUN or PACE and it carries the tag (R149). -/
def Mover.hit (mv : Mover) (tag : Tag) : Bool :=
  (mv.state == .run || mv.state == .pace) && mv.transfer.any fun t => t.tag == tag

end Sys2Proof.Machine
end

