-- ==== Sys2Proof/Machine/Beats.lean ====
section
/-! DEFINITION. Beat answers on the master port (spec/09, R177): what the owner of the burst in progress does with each, and
the freeing of the port in the event that ends the burst. -/

namespace Sys2Proof.Machine

/-- The mover with the bytes of one more beat in its buffer (R77, R83). -/
def Mover.taking (mv : Mover) (bytes : List Byte) : Mover :=
  { mv with buffer := mv.buffer ++ bytes }

/-- The owner takes the data of a read beat: a mover the enabled bytes (R77, R83), the list reader the word (R137). A
write beat brings no data. -/
def State.takeData (s : State) (owner : Requester) (write : Bool) (b : Beat) (data : Word) : State :=
  if write then s
  else
    match owner with
    | .mover m => s.setMover m ((s.mover m).taking (laneBytes b.enables data))
    | .reader => { s with reader := { s.reader with fetched := s.reader.fetched ++ [data] } }

/-- The owner's burst has been answered in full. -/
def State.burstDone (s : State) (owner : Requester) : State :=
  match owner with
  | .mover m => s.continueSide m
  | .reader => s.fetchDone

/-- The owner receives an error response (R90, R142). -/
def State.burstFailed (s : State) (owner : Requester) (write : Bool) (b : Beat) : State :=
  match owner with
  | .mover m => s.moverFault m { address := b.address, side := if write then .write else .read }
  | .reader => s.endList .faulted none

/-- A burst has been answered in full: the port is freed, with its grant to a requester that waits, and then the owner
continues (R177, R178; log 8). -/
def State.completeBurst (s : State) (g : Grant) : State :=
  let t := s.releasePort
  if g.live then t.eitherOrder (t.burstDone g.owner) else t

/-- A beat answered with MRDYn (R177). An answer to a burst whose requester has gone reaches nobody (R179). -/
def State.answerBeat (s : State) (data : Word) : State :=
  match s.grant with
  | none => s
  | some g =>
    match g.burst.beats with
    | [] => s
    | b :: rest =>
      let s := if g.live then s.takeData g.owner g.burst.write b data else s
      if rest.isEmpty then s.completeBurst g
      else { s with grant := some { g with burst := { g.burst with beats := rest } } }

/-- A beat answered with MERRn (R177): the burst ends at that beat, the port is freed, with its grant to a requester that waits
(R178), and the owner receives the error. That grant outlives an ENGINE_RESET taken next, so the last sentence of
R163 is read of the blocks of Table 8-3, and of the master port where nobody waits: DEDUCED (log 21). -/
def State.failBeat (s : State) : State :=
  match s.grant with
  | none => s
  | some g =>
    match g.burst.beats with
    | [] => s
    | b :: _ =>
      let t := s.releasePort
      if g.live then t.burstFailed g.owner g.burst.write b else t

end Sys2Proof.Machine
end

