-- ==== Sys2Proof/Machine/Surfaces.lean ====
section
/-! DEFINITION. DEFINE and RELEASE (spec/01, sections 1.4 and 1.5), and the result a control command leaves
(spec/09, R167, R168). -/

namespace Sys2Proof.Machine

/-- A control command replaces CONTROL_RESULT with its code and value (R167). -/
def State.result (s : State) (code : ResultCode) (value : Nat) : State :=
  { s with controlResult := { code := code, value := BitVec.ofNat 24 value } }

/-! ### The staged description -/

/-- The descriptor fields that a successful DEFINE stores: staged values for the fields the shape uses, the fixed values
of Table 4-2 for the others, the key as R6 gives (R2, R11). The life-cycle fields come from the entry. -/
def Staged.store (d : Staged) (f : Surface) : Surface :=
  let planeOrVolume := d.shape == some .plane || d.shape == some .volume
  let volume := d.shape == some .volume
  let port := d.shape == some .port
  { f with
    shape := d.shape
    elementSize := d.elementSize
    readable := d.readable
    writable := d.writable
    base := d.base
    xExtent := if port then 0 else d.xExtent
    yExtent := if port then 0 else if planeOrVolume then d.yExtent else 1
    zExtent := if port then 0 else if volume then d.zExtent else 1
    rowPitch := if planeOrVolume then d.rowPitch else 0
    slicePitch := if volume then d.slicePitch else 0
    key := if d.keyPresent then some (lowBytes d.elementSize.toNat d.key) else none
    binding := if port && d.bindingPresent then some d.line else none
    burst := if port then d.burst else 0 }

/-- The last byte of the whole-surface footprint, at full precision (R4). -/
def Surface.lastByte (f : Surface) : Nat :=
  if f.isPort then f.base.toNat + f.elementSize.toNat - 1
  else
    f.base.toNat + (f.zExtent.toNat - 1) * f.slicePitch.toNat + (f.yExtent.toNat - 1) * f.rowPitch.toNat
      + (f.xExtent.toNat - 1) * f.elementSize.toNat + f.elementSize.toNat - 1

/-- The used extents are in range (R10). -/
def Staged.extentsLegal (d : Staged) : Bool :=
  let x := 1 ≤ d.xExtent.toNat && d.xExtent.toNat ≤ 16384
  let y := 1 ≤ d.yExtent.toNat && d.yExtent.toNat ≤ 16384
  let z := 1 ≤ d.zExtent.toNat && d.zExtent.toNat ≤ 1024
  match d.shape with
  | some .line => x
  | some .plane => x && y
  | some .volume => x && y && z
  | some .port | none => true

/-- The used pitches keep the pitch rules (R10). -/
def Staged.pitchesLegal (d : Staged) : Bool :=
  let es := d.elementSize.toNat
  let row := d.rowPitch.toNat % es == 0 && d.xExtent.toNat * es ≤ d.rowPitch.toNat
  let slice := d.slicePitch.toNat % es == 0 && d.rowPitch.toNat * d.yExtent.toNat ≤ d.slicePitch.toNat
  match d.shape with
  | some .plane => row
  | some .volume => row && slice
  | some .line | some .port | none => true

/-- One row of Table 4-5. -/
structure DefineCheck where
  refuses : Bool
  code : ResultCode
deriving DecidableEq, Repr

/-- Checks 2 to 10 of DEFINE on an entry, in order (R9, Table 4-5). -/
def defineChecks (d : Staged) (f : Surface) : List DefineCheck :=
  let es := d.elementSize.toNat
  [ { refuses := f.state != .free, code := .notFree },
    { refuses := d.shape.isNone, code := .badShape },
    { refuses := es != 1 && es != 2 && es != 4, code := .badSize },
    { refuses := !d.extentsLegal, code := .badExtent },
    { refuses := !d.pitchesLegal, code := .badPitch },
    { refuses := d.base.toNat % es != 0, code := .misaligned },
    { refuses := 0xFFFFFFFF < (d.store f).lastByte, code := .range },
    { refuses := !d.readable && !d.writable, code := .noAccess },
    { refuses := if d.shape == some .port then d.burst.toNat < 1 || 16 < d.burst.toNat else d.bindingPresent,
      code := .badPort } ]

/-- The code of the first row that refuses. -/
def firstDefineRefusal (checks : List DefineCheck) : Option ResultCode :=
  (checks.find? DefineCheck.refuses).map DefineCheck.code

/-- The entry as a successful DEFINE leaves it (R11). -/
def definedSurface (d : Staged) (f : Surface) : Surface :=
  { d.store f with state := .defined, refcount := 0, generation := f.generation + 1 }

/-- DEFINE (R9 to R11). -/
def State.defineSurface (s : State) (index : BitVec 8) : State :=
  match surfaceIndex index.toNat with
  | none => s.result .index 0
  | some i =>
    let d := decodeStaging s.surfaceStaging
    match firstDefineRefusal (defineChecks d (s.surface i)) with
    | some code => s.result code 0
    | none =>
      let f := definedSurface d (s.surface i)
      (s.setSurface i f).result .ok f.generation.toNat

/-- RELEASE (R13). -/
def State.releaseSurface (s : State) (index : BitVec 8) : State :=
  match surfaceIndex index.toNat with
  | none => s.result .index 0
  | some i =>
    let f := s.surface i
    match f.state with
    | .free => s.result .notDefined 0
    | .defined =>
      if f.refcount = 0 then (s.free i).result .ok 0
      else (s.setSurface i { f with state := .draining }).result .deferred f.refcount
    | .draining => s.result .alreadyDraining f.refcount

end Sys2Proof.Machine
end

