-- ==== Sys2Proof/Machine/Recovery.lean ====
section
/-! DEFINITION. ABORT_TAG, RESUME, FLUSH, ENGINE_RESET and LIST_START and LIST_STOP as control commands, and the full reset
(spec/08; spec/07; spec/09, R170). -/

namespace Sys2Proof.Machine

/-- The cancelled mark set on an entry that carries the tag (R48, R150). -/
def Entry.mark (tag : Tag) (e : Entry) : Entry :=
  if e.tag = tag then { e with cancelled := true } else e

/-- Queue entries that carry the tag, marked already or not (R149). -/
def State.entriesMarked (s : State) (tag : Tag) : Nat :=
  s.queue.countP fun e => e.tag == tag

/-- Transfers that an ABORT_TAG hits (R149). -/
def State.transfersHit (s : State) (tag : Tag) : Nat :=
  [(0 : MoverIndex), 1].countP fun m => (s.mover m).hit tag

/-- ABORT_TAG (R149): every mark and every stop request first, then the postings and the examination that they
cause. -/
def State.abortByTag (s : State) (tag : Tag) : State :=
  let marked := s.entriesMarked tag
  let hit := s.transfersHit tag
  let t := ({ s with queue := s.queue.map (Entry.mark tag) }.stopMover tag 0).stopMover tag 1
  let t := if marked = 0 ∧ hit = 0 then t else s.eitherOrder t.settle
  t.result .ok (marked + 256 * hit)

/-- RESUME (R157). -/
def State.resumeDispatch (s : State) : State :=
  if s.dispatcher.halted then
    let t := { s with dispatcher := { s.dispatcher with halted := false, fault := none } }
    (s.eitherOrder t.examine).result .ok 0
  else s.result .notHalted 0

/-- FLUSH (R159, R160): every entry goes without a record, references return (R18), the slot request is withdrawn, a
running list is stopped (R145). -/
def State.flushQueue (s : State) : State :=
  let t := s.queue.foldl State.returnRefs s
  let t := ({ t with queue := [] }.setWait .none false).stopList
  (t.raiseIf (s.freeSlots < s.lowWater) .lowWater).result .ok s.queue.length

/-- A surface entry at engine reset (R23). -/
def Surface.engineReset (f : Surface) : Surface :=
  { f with refcount := 0, state := if f.state = .draining then .free else f.state }

/-- The FREED_SET bits of the DRAINING entries (R23). -/
def State.drainingSet (s : State) : BitVec 24 :=
  (List.finRange 24).foldl (fun set i => if (s.surface i).state = .draining then set ||| (1#24 <<< i.val) else set) 0

/-- A burst in progress goes on without its requester (R163, R179). -/
def Grant.orphan (g : Grant) : Grant :=
  { g with live := false }

/-- ENGINE_RESET (R162, Table 8-3): every engine block to its empty state without records. A burst in progress goes
on without its requester, and requests are withdrawn (R163, R179). -/
def State.resetEngine (s : State) : State :=
  let t := { s with
    surfaces := Vector.ofFn fun i => (s.surface i).engineReset
    freedSet := s.freedSet ||| s.drainingSet
    queue := []
    dispatcher := Dispatcher.reset
    movers := Vector.replicate 2 Mover.idle
    lines := Vector.ofFn fun n => (s.line n).released
    completions := []
    sequence := 0
    causes := 0
    reader := ListReader.reset
    grant := s.grant.map Grant.orphan }
  t.result .ok 0

/-- LIST_START (R136): BUSY, BAD_ADDRESS, or the list starts and its first fetch is requested. -/
def State.startList (s : State) : State :=
  if s.reader.state ≠ .idle then s.result .busy s.reader.count.toNat
  else if s.listAddress &&& 31#32 ≠ 0 then s.result .badAddress 0
  else
    let t := { s with reader := { s.reader with
      count := 0, endReason := .none, refusal := none, stopAddress := 0 } }
    ((t.enterFetch s.listAddress).requestFetch).result .ok 0

/-- LIST_STOP (R143). -/
def State.stopListCommand (s : State) : State :=
  match s.reader.state with
  | .idle => s.result .notRunning 0
  | .fetch | .waitSpace => s.stopList.result .ok s.reader.count.toNat

/-- An unknown command code: no state of any block changes (R167). -/
def State.unknownControl (s : State) : State :=
  s.result .unknown 0

/-- A full reset (R170): every block at its full-reset values, RESETn low and the divider stopped (R99). PREQn belongs
to the peripherals (R113, R115) and stays; the model's own fields stay. -/
def State.resetFull (s : State) : State :=
  { State.reset with
    pending := s.pending
    draws := s.draws
    inReset := true
    divider := none
    lines := Vector.ofFn fun n => { PacingLine.reset with request := (s.line n).request } }

/-- RESETn going high (R170): the device leaves full reset, the divider starts (R99), the window opens. -/
def State.leaveReset (s : State) : State :=
  if s.inReset then { s with inReset := false, divider := some s.timeBase } else s

end Sys2Proof.Machine
end

