-- ==== Sys2Proof/Machine/Window.lean ====
section
/-! DEFINITION. The register window: word writes by offset, and what every offset reads (spec/09, Table 9-1 and section 9.3),
with the device's outputs. -/

namespace Sys2Proof.Machine

/-! ### Writes -/

/-- A write of a plain register, by word offset; read-only and unnamed offsets ignore it (R165). COMMAND_STAGING
(R25), SURFACE_STAGING (R8), SURFACE_SELECT (R21), LIST_ADDRESS (R135), THRESHOLDS (R54, R128), PACING_CONFIG (R100). -/
def State.writePlain (s : State) (offset : Offset) (v : Word) : State :=
  let o := offset.toNat
  if 0x08 ≤ o ∧ o ≤ 0x0E then { s with commandStaging := s.commandStaging.setIfInBounds (o - 0x08) v }
  else if 0x18 ≤ o ∧ o ≤ 0x1E then { s with surfaceStaging := s.surfaceStaging.setIfInBounds (o - 0x18) v }
  else if o = 0x1F then { s with surfaceSelect := v.extractLsb' 0 5 }
  else if o = 0x12 then { s with listAddress := v }
  else if o = 0x06 then
    { s with
      completionThreshold := clamp 1 Config.completionCapacity (field v 0 8)
      lowWater := clamp 1 Config.queueCapacity (field v 8 8) }
  else if 0x32 ≤ o ∧ o ≤ 0x35 then
    let n : LineIndex := Fin.ofNat 4 (o - 0x32)
    s.setLine n { s.line n with
      mode := if flag v 16 then .demand else .step
      timeout := v.extractLsb' 0 16 }
  else s

/-- A word write to INT_CAUSE: each flag written as 1 is cleared (R126). -/
def State.writeIntCause (s : State) (v : Word) : State :=
  { s with causes := s.causes &&& ~~~(v.extractLsb' 0 6) }

/-- A word write to INT_ENABLE (R127). -/
def State.writeIntEnable (s : State) (v : Word) : State :=
  { s with enables := v.extractLsb' 0 6 }

/-- A word write to FREED_SET: each bit written as 1 is cleared (R19). -/
def State.writeFreedSet (s : State) (v : Word) : State :=
  { s with freedSet := s.freedSet &&& ~~~(v.extractLsb' 0 24) }

/-- A word write to STATUS: bit 31 set clears BAD_ACCESS (R166). -/
def State.writeStatus (s : State) (v : Word) : State :=
  if flag v 31 then { s with badAccess := false } else s

/-- A write to TIME_BASE: kept within 1 to 65536, and the divider restarts with it (R99). -/
def State.writeTimeBase (s : State) (v : Word) : State :=
  let n := clamp 1 65536 v.toNat
  { s with timeBase := n, divider := some n }

/-- A write to COMPLETION_POP (R125): the head goes and a waiting poster takes the freed slot (R122); on an empty queue
BAD_ACCESS is set. -/
def State.popCompletion (s : State) : State :=
  match s.completions with
  | [] => { s with badAccess := true }
  | _ :: rest =>
    let t := { s with completions := rest }
    if s.completions.length < Config.completionCapacity then t else s.eitherOrder t.settle

/-- A non-word access (R166): a read returns 0, a write has no effect, and BAD_ACCESS is set. -/
def State.nonWord (s : State) : State :=
  { s with badAccess := true }

/-- A control command by its code and operand (R167). -/
def State.control (s : State) (code : BitVec 4) (operand : BitVec 8) : State :=
  match code.toNat with
  | 1 => s.defineSurface operand
  | 2 => s.releaseSurface operand
  | 3 => s.resumeDispatch
  | 4 => s.flushQueue
  | 5 => s.abortByTag operand
  | 6 => s.startList
  | 7 => s.stopListCommand
  | 8 => s.resetEngine
  | _ => s.unknownControl

/-- A word write at any offset (R165). -/
def State.writeWord (s : State) (offset : Offset) (v : Word) : State :=
  match offset.toNat with
  | 0x01 => s.control (v.extractLsb' 0 4) (v.extractLsb' 8 8)
  | 0x03 => s.writeStatus v
  | 0x04 => s.writeIntCause v
  | 0x05 => s.writeIntEnable v
  | 0x07 => s.writeTimeBase v
  | 0x10 => s.postStaged
  | 0x17 => s.writeFreedSet v
  | 0x2D => s.popCompletion
  | _ => s.writePlain offset v

/-- A host access, and every event but those of the reset input and the PREQn levels, is taken only while RESETn is
high (R165, R170; log 7). -/
def State.unlessReset (s after : State) : State :=
  if s.inReset then s else after

/-! ### Codes of the window (section 9.3) -/

def ResultCode.code : ResultCode → Nat
  | .none => 0
  | .ok => 1
  | .deferred => 2
  | .index => 3
  | .notFree => 4
  | .badShape => 5
  | .badSize => 6
  | .badExtent => 7
  | .badPitch => 8
  | .misaligned => 9
  | .range => 10
  | .noAccess => 11
  | .badPort => 12
  | .notDefined => 13
  | .alreadyDraining => 14
  | .notHalted => 15
  | .busy => 16
  | .badAddress => 17
  | .notRunning => 18
  | .unknown => 19

def Reason.code : Reason → Nat
  | .full => 2
  | .badKind => 3
  | .badOption => 4
  | .noSurface => 5
  | .stale => 6
  | .draining => 7
  | .notReadable => 8
  | .notWritable => 9
  | .portPair => 10
  | .sizeMismatch => 11
  | .noKey => 12
  | .badRect => 13
  | .aliased => 14

def PostCode.code : PostCode → Nat
  | .none => 0
  | .accepted => 1
  | .refused r => r.code

def WaitReason.code : WaitReason → Nat
  | .none => 0
  | .mover => 1
  | .hazard => 2
  | .line => 3
  | .fence => 4
  | .space => 5

def MoverState.code : MoverState → Nat
  | .idle => 0
  | .run => 1
  | .pace => 2
  | .post => 3

def SurfaceState.code : SurfaceState → Nat
  | .free => 0
  | .defined => 1
  | .draining => 2

def Shape.code : Shape → Nat
  | .line => 1
  | .plane => 2
  | .volume => 3
  | .port => 4

def Kind.code : Kind → Nat
  | .move => 1
  | .fill => 2
  | .fence => 3

def Outcome.code : Outcome → Nat
  | .done => 1
  | .short => 2
  | .aborted => 3
  | .faulted => 4
  | .timeout => 5
  | .fence => 6

def Direction.code : Direction → Nat
  | .read => 0
  | .write => 1

def LineState.code : LineState → Nat
  | .idle => 0
  | .waitLow => 1
  | .wait => 2
  | .burst => 3

def Mode.code : Mode → Nat
  | .step => 0
  | .demand => 1

def ReaderState.code : ReaderState → Nat
  | .idle => 0
  | .fetch => 1
  | .waitSpace => 2

def EndReason.code : EndReason → Nat
  | .none => 0
  | .ended => 1
  | .stopped => 2
  | .rejected => 3
  | .faulted => 4

/-- The one coding of mover fields (R174). -/
def moverCode : Option MoverIndex → Nat
  | none => 0
  | some m => m.val + 1

/-! ### Reads -/

/-- A value placed at a bit of a word, cut to its field's width. -/
def place (low width v : Nat) : Word :=
  BitVec.ofNat 32 (v % 2 ^ width) <<< low

/-- A flag placed at a bit of a word. -/
def placeFlag (bit : Nat) (b : Bool) : Word :=
  place bit 1 b.toNat

/-- ID (R169): revision 1, part code 0x2416. -/
def idWord : Word := 0x00012416#32

/-- STATUS (R169, Table 9-4). -/
def State.statusWord (s : State) : Word :=
  place 0 8 s.queue.length ||| place 8 8 s.completions.length ||| place 16 3 s.dispatcher.waitReason.code
    ||| placeFlag 19 s.dispatcher.halted ||| place 20 2 (s.mover 0).state.code ||| place 22 2 (s.mover 1).state.code
    ||| placeFlag 31 s.badAccess

/-- CONTROL_RESULT (R168). -/
def State.controlResultWord (s : State) : Word :=
  place 0 8 s.controlResult.code.code ||| place 8 24 s.controlResult.value.toNat

/-- POST_RESULT (Table 9-8). -/
def State.postResultWord (s : State) : Word :=
  place 0 8 s.postResult.code.code ||| place 8 8 s.postResult.tag.toNat ||| place 16 8 s.postResult.count

/-- LIST_STATUS (Table 9-8). -/
def State.listStatusWord (s : State) : Word :=
  place 0 2 s.reader.state.code ||| place 4 3 s.reader.endReason.code
    ||| place 8 8 ((s.reader.refusal.map Reason.code).getD 0)

/-- Words 0 to 7 of SURFACE_VIEW for an entry (R173, Table 9-6). -/
def Surface.viewWord (f : Surface) : Nat → Word
  | 0 =>
    place 0 3 ((f.shape.map Shape.code).getD 0) ||| place 4 4 f.elementSize.toNat ||| placeFlag 8 f.readable
      ||| placeFlag 9 f.writable ||| placeFlag 10 f.key.isSome ||| placeFlag 11 f.binding.isSome
      ||| place 12 2 ((f.binding.map Fin.val).getD 0) ||| place 16 5 f.burst.toNat
  | 1 => f.base
  | 2 => place 0 16 f.xExtent.toNat ||| place 16 16 f.yExtent.toNat
  | 3 => place 0 16 f.zExtent.toNat
  | 4 => f.rowPitch
  | 5 => f.slicePitch
  | 6 => f.key.getD 0
  | 7 => place 0 2 f.state.code ||| place 8 5 f.refcount ||| place 16 4 f.generation.toNat
  | _ => 0

/-- SURFACE_VIEW: the selected entry, or 0 when SURFACE_SELECT holds 24 to 31 (R21). -/
def State.surfaceViewWord (s : State) (i : Nat) : Word :=
  match surfaceIndex s.surfaceSelect.toNat with
  | none => 0
  | some n => (s.surface n).viewWord i

/-- Words 0 to 4 of COMPLETION_VIEW for a record (R174, Table 9-7). -/
def Completion.viewWord (r : Completion) : Nat → Word
  | 0 =>
    place 0 3 r.outcome.code ||| placeFlag 3 r.signal ||| place 4 2 r.kind.code ||| place 6 2 (moverCode r.mover)
      ||| place 8 8 r.tag.toNat ||| place 16 16 r.sequence.toNat
  | 1 => place 0 25 r.moved ||| place 31 1 ((r.fault.map fun x => x.side.code).getD 0)
  | 2 => place 0 25 r.skipped
  | 3 => place 0 25 r.clipped
  | 4 => (r.fault.map FaultItem.address).getD 0
  | _ => 0

/-- COMPLETION_VIEW: the head record, or outcome NONE with the sequence counter (R124). -/
def State.completionViewWord (s : State) (i : Nat) : Word :=
  match s.completions with
  | r :: _ => r.viewWord i
  | [] => if i = 0 then place 16 16 s.sequence.toNat else 0

/-- The FAULT words (R174); all 0 when the record is empty (R153). -/
def State.faultWord (s : State) (i : Nat) : Word :=
  match s.dispatcher.fault with
  | none => 0
  | some r =>
    match i with
    | 0 =>
      placeFlag 0 true ||| place 1 1 r.item.side.code ||| place 2 2 (moverCode (some r.mover)) ||| place 4 2 r.kind.code
    | 1 => place 0 8 r.tag.toNat
    | 2 => r.item.address
    | _ => 0

/-- PACING_CONFIG of one line (Table 9-8). -/
def PacingLine.configWord (l : PacingLine) : Word :=
  place 0 16 l.timeout.toNat ||| place 16 1 l.mode.code

/-- The timer-running flag of PACING_STATUS (Table 5-4). -/
def PacingLine.showsRunning (l : PacingLine) : Bool :=
  (l.state == .wait || l.state == .waitLow) && l.latchedTimeout != 0

/-- One line's byte of PACING_STATUS (R114, Table 9-8). -/
def PacingLine.statusByte (l : PacingLine) : Nat :=
  l.state.code + 4 * moverCode l.bound + 16 * (if l.state = .idle then l.mode else l.latchedMode).code
    + 32 * l.showsRunning.toNat + 64 * l.endSeen.toNat + 128 * l.request.toNat

/-- PACING_STATUS (R114). -/
def State.pacingStatusWord (s : State) : Word :=
  place 0 8 (s.line 0).statusByte ||| place 8 8 (s.line 1).statusByte ||| place 16 8 (s.line 2).statusByte
    ||| place 24 8 (s.line 3).statusByte

/-- THRESHOLDS (Table 9-8). -/
def State.thresholdsWord (s : State) : Word :=
  place 0 8 s.completionThreshold ||| place 8 8 s.lowWater

/-- A word read of the window: the value of the register at the offset (R165, Table 9-1). Write-only registers and
unnamed offsets read 0. A read changes nothing. -/
def State.readRegister (s : State) (offset : Offset) : Word :=
  let o := offset.toNat
  if o = 0x00 then idWord
  else if o = 0x02 then s.controlResultWord
  else if o = 0x03 then s.statusWord
  else if o = 0x04 then place 0 6 s.causes.toNat
  else if o = 0x05 then place 0 6 s.enables.toNat
  else if o = 0x06 then s.thresholdsWord
  else if o = 0x07 then place 0 32 s.timeBase
  else if 0x08 ≤ o ∧ o ≤ 0x0E then s.commandStaging.toList.getD (o - 0x08) 0
  else if o = 0x11 then s.postResultWord
  else if o = 0x12 then s.listAddress
  else if o = 0x13 then s.listStatusWord
  else if o = 0x14 then s.reader.stopAddress
  else if o = 0x15 then s.reader.count
  else if o = 0x17 then place 0 24 s.freedSet.toNat
  else if 0x18 ≤ o ∧ o ≤ 0x1E then s.surfaceStaging.toList.getD (o - 0x18) 0
  else if o = 0x1F then place 0 5 s.surfaceSelect.toNat
  else if 0x20 ≤ o ∧ o ≤ 0x27 then s.surfaceViewWord (o - 0x20)
  else if 0x28 ≤ o ∧ o ≤ 0x2C then s.completionViewWord (o - 0x28)
  else if 0x2E ≤ o ∧ o ≤ 0x30 then s.faultWord (o - 0x2E)
  else if 0x32 ≤ o ∧ o ≤ 0x35 then (s.line (Fin.ofNat 4 (o - 0x32))).configWord
  else if o = 0x36 then s.pacingStatusWord
  else 0

/-- What a read access of the window returns: nothing while RESETn is low (R170), 0 for a non-word access (R166), else
the register. -/
def State.windowRead (s : State) (offset : Offset) (enables : BitVec 4) : Option Word :=
  if s.inReset then none else if enables = 15#4 then some (s.readRegister offset) else some 0

/-! ### The master port's outputs (section 9.4) -/

/-- The beat that the device has on the master port, waiting for its answer: direction and beat (R176, R177). -/
def State.busBeat (s : State) : Option (Direction × Beat) :=
  s.grant.bind fun g => g.burst.beats.head?.map fun b => (if g.burst.write then .write else .read, b)

/-- The byte that the beat writes at an address, if it writes one there (R176): the bytes of a write beat lie on its
enabled lanes, the lowest lane first. -/
def Beat.byteAt (b : Beat) (address : Nat) : Option Byte :=
  if address / 4 = b.address.toNat / 4 ∧ b.enables.getLsbD (address % 4) then
    b.bytes[((List.range (address % 4)).filter fun l => b.enables.getLsbD l).length]?
  else none

end Sys2Proof.Machine
end

