-- ==== Sys2Proof/Machine/Control.lean ====
section
/-! DEFINITION. The meanings of the control commands (spec/09, R167): one definition per row of the table. -/

namespace Sys2Proof.Machine

/-- DEFINE (R9 to R11). -/
def execDefine (index : BitVec 8) (s : State) : Host.Outcome State Fault Refusal :=
  .next (s.unlessReset (s.defineSurface index))

/-- RELEASE (R13). -/
def execRelease (index : BitVec 8) (s : State) : Host.Outcome State Fault Refusal :=
  .next (s.unlessReset (s.releaseSurface index))

/-- RESUME (R157). -/
def execResume (s : State) : Host.Outcome State Fault Refusal :=
  .next (s.unlessReset s.resumeDispatch)

/-- FLUSH (R159). -/
def execFlush (s : State) : Host.Outcome State Fault Refusal :=
  .next (s.unlessReset s.flushQueue)

/-- ABORT_TAG (R149). -/
def execAbortTag (tag : Tag) (s : State) : Host.Outcome State Fault Refusal :=
  .next (s.unlessReset (s.abortByTag tag))

/-- LIST_START (R136). -/
def execListStart (s : State) : Host.Outcome State Fault Refusal :=
  .next (s.unlessReset s.startList)

/-- LIST_STOP (R143). -/
def execListStop (s : State) : Host.Outcome State Fault Refusal :=
  .next (s.unlessReset s.stopListCommand)

/-- ENGINE_RESET (R162). -/
def execEngineReset (s : State) : Host.Outcome State Fault Refusal :=
  .next (s.unlessReset s.resetEngine)

/-- UNKNOWN_COMMAND (R167). The row's codes are 0 and 9 to 15; with another code the word is that control
command, and acts as it (log 14). -/
def execUnknownCommand (code : BitVec 4) (operand : BitVec 8) (s : State) : Host.Outcome State Fault Refusal :=
  .next (s.unlessReset (s.control code operand))

end Sys2Proof.Machine
end

