-- ==== Sys2Proof/Machine/Events.lean ====
section
/-! DEFINITION. The meanings of the events that no host write brings: the reset input, the pacing pins, the time base, the
beat answers and the presentation after a removal. One definition per row of the table. -/

namespace Sys2Proof.Machine

/-- FULL_RESET (R170). -/
def execFullReset (s : State) : Host.Outcome State Fault Refusal :=
  .next s.resetFull

/-- RESET_RELEASE (R170). RESETn already high does not rise again: no effect (log 15). -/
def execResetRelease (s : State) : Host.Outcome State Fault Refusal :=
  .next s.leaveReset

/-- The level of PREQn as the line has it from now on (R98). -/
def State.setRequest (s : State) (n : LineIndex) (active : Bool) : State :=
  s.setLine n { s.line n with request := active }

/-- PREQn becomes active (R98, R102): a line in WAIT admits a burst; elsewhere the level stays on the input. -/
def State.requestRises (s : State) (n : LineIndex) : State :=
  let t := s.setRequest n true
  match (s.line n).state, (s.line n).bound with
  | .wait, some m => t.admitBurst n m
  | _, _ => t

/-- PREQn becomes inactive (R98, R104): a line in WAIT_LOW passes to WAIT, its timer not reloaded. -/
def State.requestFalls (s : State) (n : LineIndex) : State :=
  let t := s.setRequest n false
  if (s.line n).state = .waitLow then t.setLine n { t.line n with state := .wait } else t

/-- PREQ_ACTIVE (R102). While RESETn is low the level is kept and not acted on (R115, R170). -/
def execPreqActive (line : LineIndex) (s : State) : Host.Outcome State Fault Refusal :=
  .next (if s.inReset then s.setRequest line true else s.requestRises line)

/-- PREQ_INACTIVE (R104). While RESETn is low the level is kept and not acted on (R115, R170). -/
def execPreqInactive (line : LineIndex) (s : State) : Host.Outcome State Fault Refusal :=
  .next (if s.inReset then s.setRequest line false else s.requestFalls line)

/-- A falling edge of PENDn by line state (R109). -/
def State.endEdge (s : State) (n : LineIndex) : State :=
  match (s.line n).state with
  | .idle => s
  | .burst => s.setLine n { s.line n with endSeen := true }
  | .wait | .waitLow => s.endFromLine n .short

/-- PEND_FALL (R109). -/
def execPendFall (line : LineIndex) (s : State) : Host.Outcome State Fault Refusal :=
  .next (s.unlessReset (s.endEdge line))

/-- A tick of the running divider (R99): every running line timer counts down, and the divider starts its next
period. -/
def State.timeTick (s : State) : State :=
  match s.divider with
  | none => s
  | some _ => { s with lines := Vector.ofFn fun n => (s.line n).tick, divider := some s.timeBase }

/-- TICK (R99, R107). -/
def execTick (s : State) : Host.Outcome State Fault Refusal :=
  .next (s.unlessReset s.timeTick)

/-- The expiry of a line's timer (R107): the bound transfer ends TIMEOUT. A timer that is stopped or has ticks left
has no expiry to take (log 5). -/
def State.timerExpires (s : State) (n : LineIndex) : State :=
  if (s.line n).expired then s.endFromLine n .timeout else s

/-- TIMER_EXPIRY (R107). -/
def execTimerExpiry (line : LineIndex) (s : State) : Host.Outcome State Fault Refusal :=
  .next (s.unlessReset (s.timerExpires line))

/-- BEAT_ANSWERED (R177). -/
def execBeatAnswered (data : Word) (s : State) : Host.Outcome State Fault Refusal :=
  .next (s.unlessReset (s.answerBeat data))

/-- BEAT_ERROR (R177). -/
def execBeatError (s : State) : Host.Outcome State Fault Refusal :=
  .next (s.unlessReset s.failBeat)

/-- WAIT_SPACE_PRESENTATION (R139). -/
def execWaitSpacePresentation (s : State) : Host.Outcome State Fault Refusal :=
  .next (s.unlessReset s.presentAgain)

end Sys2Proof.Machine
end

