-- ==== Sys2Proof/Machine/HostWrites.lean ====
section
/-! DEFINITION. The meanings of POST, COMPLETION_POP and the register writes (spec/09, R165, R166): one definition per row
of the table. -/

namespace Sys2Proof.Machine

/-- POST (R49). -/
def execPost (s : State) : Host.Outcome State Fault Refusal :=
  .next (s.unlessReset s.postStaged)

/-- COMPLETION_POP (R125). -/
def execCompletionPop (s : State) : Host.Outcome State Fault Refusal :=
  .next (s.unlessReset s.popCompletion)

/-- INT_CAUSE_WRITE (R126). -/
def execIntCauseWrite (value : Word) (s : State) : Host.Outcome State Fault Refusal :=
  .next (s.unlessReset (s.writeIntCause value))

/-- INT_ENABLE_WRITE (R127). -/
def execIntEnableWrite (value : Word) (s : State) : Host.Outcome State Fault Refusal :=
  .next (s.unlessReset (s.writeIntEnable value))

/-- FREED_SET_WRITE (R19). -/
def execFreedSetWrite (value : Word) (s : State) : Host.Outcome State Fault Refusal :=
  .next (s.unlessReset (s.writeFreedSet value))

/-- STATUS_WRITE (R166). -/
def execStatusWrite (value : Word) (s : State) : Host.Outcome State Fault Refusal :=
  .next (s.unlessReset (s.writeStatus value))

/-- TIME_BASE_WRITE (R99). -/
def execTimeBaseWrite (value : Word) (s : State) : Host.Outcome State Fault Refusal :=
  .next (s.unlessReset (s.writeTimeBase value))

/-- REGISTER_WRITE (R165). The row's offsets are those without behaviour of their own; at another offset the word
write acts as that register's rule gives (log 14). -/
def execRegisterWrite (offset : Offset) (value : Word) (s : State) : Host.Outcome State Fault Refusal :=
  .next (s.unlessReset (s.writeWord offset value))

/-- NON_WORD_ACCESS (R166). With all byte enables active the access is a word access, and acts as one (log 14). -/
def execNonWordAccess (access : Access) (offset : Offset) (enables : BitVec 4) (s : State) :
    Host.Outcome State Fault Refusal :=
  .next (s.unlessReset
    (if enables = 15#4 then
      match access with
      | .read => s
      | .write value => s.writeWord offset value
    else s.nonWord))

end Sys2Proof.Machine
end

