-- ==== Sys2Proof/Machine/Dispatch.lean ====
section
/-! DEFINITION. The meaning of each command of the table: one arm per constructor. -/

namespace Sys2Proof.Machine

def exec (i : Instr) (s : State) : Host.Outcome State Fault Refusal :=
  match i with
  | .define index => Sys2Proof.Machine.execDefine index s
  | .release index => Sys2Proof.Machine.execRelease index s
  | .resume => Sys2Proof.Machine.execResume s
  | .flush => Sys2Proof.Machine.execFlush s
  | .abortTag tag => Sys2Proof.Machine.execAbortTag tag s
  | .listStart => Sys2Proof.Machine.execListStart s
  | .listStop => Sys2Proof.Machine.execListStop s
  | .engineReset => Sys2Proof.Machine.execEngineReset s
  | .unknownCommand code operand => Sys2Proof.Machine.execUnknownCommand code operand s
  | .post => Sys2Proof.Machine.execPost s
  | .completionPop => Sys2Proof.Machine.execCompletionPop s
  | .intCauseWrite value => Sys2Proof.Machine.execIntCauseWrite value s
  | .intEnableWrite value => Sys2Proof.Machine.execIntEnableWrite value s
  | .freedSetWrite value => Sys2Proof.Machine.execFreedSetWrite value s
  | .statusWrite value => Sys2Proof.Machine.execStatusWrite value s
  | .timeBaseWrite value => Sys2Proof.Machine.execTimeBaseWrite value s
  | .registerWrite offset value => Sys2Proof.Machine.execRegisterWrite offset value s
  | .nonWordAccess access offset enables => Sys2Proof.Machine.execNonWordAccess access offset enables s
  | .fullReset => Sys2Proof.Machine.execFullReset s
  | .resetRelease => Sys2Proof.Machine.execResetRelease s
  | .preqActive line => Sys2Proof.Machine.execPreqActive line s
  | .preqInactive line => Sys2Proof.Machine.execPreqInactive line s
  | .pendFall line => Sys2Proof.Machine.execPendFall line s
  | .tick => Sys2Proof.Machine.execTick s
  | .timerExpiry line => Sys2Proof.Machine.execTimerExpiry line s
  | .beatAnswered data => Sys2Proof.Machine.execBeatAnswered data s
  | .beatError => Sys2Proof.Machine.execBeatError s
  | .waitSpacePresentation => Sys2Proof.Machine.execWaitSpacePresentation s

end Sys2Proof.Machine
end

