-- ==== Sys2Proof/Safety.lean ====
section
/-! DEFINITION. What the statements speak of: the invariants of the device, and the spec's conditions in plain numbers,
written apart from the functions that the machine computes them with. -/

namespace Sys2Proof.Safety

open Sys2Proof.Machine

/-! ### Surfaces (spec/01) -/

/-- The element sizes that a defined surface can have (R173). -/
abbrev ElementSizeLegal (n : Nat) : Prop :=
  n = 1 ∨ n = 2 ∨ n = 4

/-- The last byte of a surface that has extents, in plain numbers (R4). -/
abbrev lastByteOf (es base x y z row slice : Nat) : Nat :=
  base + (z - 1) * slice + (y - 1) * row + (x - 1) * es + es - 1

/-- A descriptor that DEFINE lets through (R10), with the fixed values of Table 4-2 in the fields its shape does not use. -/
abbrev DescriptorLegal (f : Surface) : Prop :=
  ElementSizeLegal f.elementSize.toNat
  ∧ f.base.toNat % f.elementSize.toNat = 0
  ∧ (f.readable = true ∨ f.writable = true)
  ∧ f.shape ≠ none
  ∧ (f.shape = some .port →
      f.xExtent = 0 ∧ f.yExtent = 0 ∧ f.zExtent = 0 ∧ f.rowPitch = 0 ∧ f.slicePitch = 0
      ∧ 1 ≤ f.burst.toNat ∧ f.burst.toNat ≤ 16)
  ∧ (f.shape ≠ some .port →
      f.binding = none ∧ f.burst = 0
      ∧ 1 ≤ f.xExtent.toNat ∧ f.xExtent.toNat ≤ 16384
      ∧ lastByteOf f.elementSize.toNat f.base.toNat f.xExtent.toNat f.yExtent.toNat f.zExtent.toNat
          f.rowPitch.toNat f.slicePitch.toNat ≤ 0xFFFFFFFF)
  ∧ (f.shape = some .line → f.yExtent = 1 ∧ f.zExtent = 1 ∧ f.rowPitch = 0 ∧ f.slicePitch = 0)
  ∧ (f.shape = some .plane → f.zExtent = 1 ∧ f.slicePitch = 0)
  ∧ (f.shape = some .plane ∨ f.shape = some .volume →
      1 ≤ f.yExtent.toNat ∧ f.yExtent.toNat ≤ 16384
      ∧ f.rowPitch.toNat % f.elementSize.toNat = 0
      ∧ f.xExtent.toNat * f.elementSize.toNat ≤ f.rowPitch.toNat)
  ∧ (f.shape = some .volume →
      1 ≤ f.zExtent.toNat ∧ f.zExtent.toNat ≤ 1024
      ∧ f.slicePitch.toNat % f.elementSize.toNat = 0
      ∧ f.rowPitch.toNat * f.yExtent.toNat ≤ f.slicePitch.toNat)

/-- INVARIANT. Every entry that is DEFINED or DRAINING has a legal description (R10, R11). -/
abbrev SurfacesLegal (s : State) : Prop :=
  ∀ i : SurfaceIndex, (s.surface i).state ≠ .free → DescriptorLegal (s.surface i)

/-- How many held commands name a surface: queue entries and transfers in flight (R16). -/
def holders (s : State) (i : SurfaceIndex) : Nat :=
  s.queue.countP (fun e => e.surfaces.contains i) + s.inFlight.countP (fun e => e.surfaces.contains i)

/-- INVARIANT. Reference counts are exact (R16); FREE entries have none and DRAINING entries some (R14); an IDLE mover
holds no transfer (R73). -/
abbrev LifeCycleSound (s : State) : Prop :=
  (∀ i : SurfaceIndex, (s.surface i).refcount = holders s i)
  ∧ (∀ i : SurfaceIndex, (s.surface i).state = .free → (s.surface i).refcount = 0)
  ∧ (∀ i : SurfaceIndex, (s.surface i).state = .draining → 0 < (s.surface i).refcount)
  ∧ (∀ m : MoverIndex, (s.mover m).state = .idle → (s.mover m).transfer = none)

/-- The descriptor fields and the generation of two entries are the same (R1, R12). -/
abbrev SameDescription (f g : Surface) : Prop :=
  { f with state := g.state, refcount := g.refcount } = g

/-! ### Queues (spec/03, spec/06) -/

/-- INVARIANT. The command queue and the completion queue stay within their capacities (R47, R119). -/
abbrev WithinCapacity (s : State) : Prop :=
  s.queue.length ≤ 16 ∧ s.completions.length ≤ 32

/-- INVARIANT. The records' sequence numbers are consecutive and lead up to the counter (R120). -/
abbrev SequenceConsecutive (s : State) : Prop :=
  s.completions.map Completion.sequence =
    (List.range s.completions.length).map fun i => s.sequence - BitVec.ofNat 16 (s.completions.length - i)

/-- INVARIANT. The kept thresholds and the time base are within their ranges (R54, R99, R128). -/
abbrev SettingsInRange (s : State) : Prop :=
  1 ≤ s.completionThreshold ∧ s.completionThreshold ≤ 32 ∧ 1 ≤ s.lowWater ∧ s.lowWater ≤ 16
  ∧ 1 ≤ s.timeBase ∧ s.timeBase ≤ 65536

/-! ### Movers, lines, master port and list reader together (spec/04, spec/05, spec/07, spec/09) -/

/-- One mover's items agree with its state (R72, R73, R92). -/
abbrev MoverSound (mv : Mover) : Prop :=
  (mv.state = .idle → mv = Mover.idle)
  ∧ (mv.state ≠ .idle → ∃ t ∈ mv.transfer, t.kind ≠ .fence ∧ t.effective ≠ 0 ∧ t.cancelled = false)
  ∧ (mv.state = .post ↔ mv.outcome.isSome)
  ∧ (mv.fault.isSome ↔ mv.outcome = some .faulted)
  ∧ (mv.state ≠ .run → mv.request = none ∧ mv.bursts = [])

/-- One line's items agree with its state (R97, R101 to R109). -/
abbrev LineSound (l : PacingLine) : Prop :=
  (l.state = .idle ↔ l.bound = none)
  ∧ (l.state = .idle → l.timerRunning = false)
  ∧ (l.endSeen = true → l.state = .burst)
  ∧ (l.state = .burst → l.timerRunning = false)
  ∧ (l.state = .wait → l.request = false)
  ∧ (l.state = .waitLow → l.request = true ∧ l.latchedMode = .step)
  ∧ (l.state = .wait ∨ l.state = .waitLow →
      (l.timerRunning = true ↔ l.latchedTimeout ≠ 0) ∧ l.timerCount.toNat ≤ l.latchedTimeout.toNat)

/-- The state that the bound mover has while its line is in a state (R73): RUN in BURST, PACE in WAIT and WAIT_LOW. -/
def moverStateOn : LineState → MoverState
  | .idle => .idle
  | .waitLow | .wait => .pace
  | .burst => .run

/-- A mover and a line are bound to each other exactly while the mover holds, in RUN or PACE, a transfer that records the
line (R66, R101, R113). -/
abbrev BindingSound (s : State) : Prop :=
  ∀ (m : MoverIndex) (n : LineIndex),
    (s.line n).bound = some m ↔
      (s.mover m).transfer.bind Entry.line = some n ∧ (s.mover m).state = moverStateOn (s.line n).state

/-- A paced transfer that is in RUN or PACE has its line (R101). -/
abbrev PacedHaveLines (s : State) : Prop :=
  ∀ (m : MoverIndex), ((s.mover m).state = .pace → ((s.mover m).transfer.bind Entry.line).isSome)
    ∧ ∀ n : LineIndex, (s.mover m).transfer.bind Entry.line = some n →
        (s.mover m).state = .run ∨ (s.mover m).state = .pace → (s.line n).bound = some m

/-- A burst that can be answered: it has a beat left. -/
abbrev Answerable (b : Burst) : Prop :=
  b.beats ≠ []

/-- The list reader's items agree with its state (R133, R137). -/
abbrev ReaderSound (s : State) : Prop :=
  (s.reader.state = .idle → s.reader.request = none ∧ s.reader.inHand = none ∧ s.reader.fetched = []
    ∧ s.reader.due = false)
  ∧ (s.reader.state = .waitSpace → s.reader.request = none ∧ s.reader.inHand.isSome ∧ s.reader.fetched = [])
  ∧ (s.reader.state = .fetch → s.reader.inHand = none ∧ s.reader.due = false)
  ∧ (s.reader.endReason ≠ .none → s.reader.state = .idle)
  ∧ (s.reader.refusal.isSome ↔ s.reader.endReason = .rejected)
  ∧ (s.reader.refusal ≠ some .full)
  ∧ (s.reader.state = .fetch →
      (∃ b ∈ s.reader.request, b.beats.length = 8 ∧ s.reader.fetched = [])
      ∨ ∃ g ∈ s.grant, g.live = true ∧ g.owner = .reader ∧ g.burst.write = false
          ∧ s.reader.fetched.length + g.burst.beats.length = 8)

/-- The arbiter's items agree with its requesters (R88, R137, R178): the order holds each requester once, the owner of the
burst in progress stands last, nobody waits at a free port, and a requester never has two bursts at the port. -/
abbrev PortSound (s : State) : Prop :=
  s.rotation.Perm [.mover 0, .mover 1, .reader]
  ∧ (s.grant = none → ∀ r : Requester, r ∈ s.rotation → s.waiting r = none)
  ∧ (∀ r ∈ s.rotation, ∀ b ∈ s.waiting r, Answerable b)
  ∧ (∀ m : MoverIndex, ∀ b ∈ (s.mover m).bursts, Answerable b)
  ∧ (∀ g ∈ s.grant, Answerable g.burst ∧ s.rotation.getLast? = some g.owner
      ∧ (g.live = true → s.waiting g.owner = none)
      ∧ (∀ m : MoverIndex, g.live = true → g.owner = .mover m → (s.mover m).state = .run)
      ∧ (g.live = true → g.owner = .reader → s.reader.state = .fetch))

/-- INVARIANT. Movers, pacing lines, master port and list reader agree with one another, and nothing runs while RESETn is
low (R73, R88, R97, R101, R113, R133, R170, R178). -/
abbrev EngineSound (s : State) : Prop :=
  (∀ m : MoverIndex, MoverSound (s.mover m))
  ∧ (∀ n : LineIndex, LineSound (s.line n))
  ∧ BindingSound s
  ∧ PacedHaveLines s
  ∧ PortSound s
  ∧ ReaderSound s
  ∧ (s.inReset = true → ∀ n : LineIndex, (s.line n).state = .idle)
  ∧ (∀ a ∈ (s.mover 0).transfer, ∀ b ∈ (s.mover 1).transfer, a.sharesLine b = false)

/-- INVARIANT. No two transfers in flight have conflicting footprints or record the same line (R67). -/
abbrev InFlightApart (s : State) : Prop :=
  ∀ a ∈ (s.mover 0).transfer, ∀ b ∈ (s.mover 1).transfer, a.conflicts b = false ∧ a.sharesLine b = false

/-- Both movers are IDLE (R60). -/
abbrev MoversIdle (s : State) : Prop :=
  (s.mover 0).state = .idle ∧ (s.mover 1).state = .idle

/-- The outcome with which the dispatcher itself reports a head, once it has a completion slot: the first rows of Table 3-2
(R59, R60, R61). -/
def reportOf (s : State) (e : Entry) : Option Outcome :=
  if e.cancelled = true then some .aborted
  else if e.kind = .fence then (if MoversIdle s then some .fence else none)
  else if e.size.x * e.size.y * e.size.z = 0 then some .done
  else none

/-- What holds a head that the dispatcher does not report: the first reason of the table of R68 that applies (R60, R63, R64,
R65). None where the head is issued. -/
def holdOf (s : State) (e : Entry) : Option WaitReason :=
  if (reportOf s e).isSome then none
  else if e.kind = .fence then some .fence
  else if ∃ t ∈ s.inFlight, e.conflicts t = true then some .hazard
  else if ∃ t ∈ s.inFlight, e.line ≠ none ∧ e.line = t.line then some .line
  else if (s.mover 0).state ≠ .idle ∧ (s.mover 1).state ≠ .idle then some .mover
  else none

/-- What the dispatcher's wait reason has to be (R57, R62, R68); none where the head would have been taken. -/
def expectedWait (s : State) : Option WaitReason :=
  if s.dispatcher.halted then some .none
  else
    match s.queue with
    | [] => some .none
    | e :: _ =>
      if (reportOf s e).isSome then (if s.completions.length < 32 then none else some .space)
      else holdOf s e

/-- INVARIANT. The dispatcher is never behind: its wait reason is the one that holds now, a slot request is outstanding
exactly with reason SPACE, and the fault record is present exactly in HALT (R57, R62, R68, R154). -/
abbrev DispatcherSound (s : State) : Prop :=
  expectedWait s = some s.dispatcher.waitReason
  ∧ (s.dispatcher.slotRequest = true ↔ s.dispatcher.waitReason = .space)
  ∧ (s.dispatcher.halted = true ↔ s.dispatcher.fault.isSome)

/-- INVARIANT. Posters wait only for a full completion queue (R121, R122). -/
abbrev PostersServed (s : State) : Prop :=
  (∀ m : MoverIndex, (s.mover m).state = .post → s.completions.length = 32)
  ∧ (s.dispatcher.slotRequest = true → s.completions.length = 32)

/-- INVARIANT. A list reader that waits for space with no removal to answer finds a full queue (R139). -/
abbrev WaitSpaceFull (s : State) : Prop :=
  s.reader.state = .waitSpace → s.reader.due = false → s.queue.length = 16

/-! ### Counts (spec/04) -/

/-- Elements of the units before unit `p`. -/
def elementsBefore (s : State) (e : Entry) (p : Nat) : Nat :=
  ((List.range p).map (s.unitElements e)).sum

/-- What acceptance fixes of an entry, as long as its references hold its surfaces (R32, R34, R44, R46). -/
abbrev EntrySound (s : State) (e : Entry) : Prop :=
  e.effective + e.clipped = e.requested
  ∧ (e.kind = .fence → e.src = none ∧ e.dst = none)
  ∧ (e.kind = .fill → e.src = none ∧ e.dst.isSome)
  ∧ (e.kind = .move → e.src.isSome ∧ e.dst.isSome)
  ∧ (∀ a ∈ e.src, ∀ b ∈ e.dst,
      (s.surface a.surface).elementSize = (s.surface b.surface).elementSize
      ∧ ¬ ((s.surface a.surface).isPort = true ∧ (s.surface b.surface).isPort = true))

/-- The bytes that a list of bursts still brings in. -/
def enabledLanes (bursts : List Burst) : Nat :=
  (bursts.map fun b => (b.beats.map fun x => ((List.range 4).filter fun l => x.enables.getLsbD l).length).sum).sum

/-- The mover's bursts that are not answered in full: in progress, requested, or still to request. -/
def outstanding (s : State) (m : MoverIndex) : List Burst :=
  (s.grant.toList.filter fun g => g.live && g.owner == .mover m).map Grant.burst
    ++ (s.mover m).request.toList ++ (s.mover m).bursts

/-- One mover's counts and buffer agree with its position (R81, R86, R90, R92). -/
abbrev ProgressSound (s : State) (m : MoverIndex) (t : Entry) : Prop :=
  ((s.mover m).state ≠ .post →
    (s.mover m).position < s.unitCount t
    ∧ (s.mover m).moved + (s.mover m).skipped = elementsBefore s t (s.mover m).position)
  ∧ ((s.mover m).state = .post → (s.mover m).outcome = some .done →
      (s.mover m).moved + (s.mover m).skipped = t.effective)
  ∧ ((s.mover m).state = .post → (s.mover m).outcome ≠ some .done →
      (s.mover m).moved + (s.mover m).skipped < t.effective)
  ∧ ((s.mover m).state = .run → outstanding s m ≠ []
    ∧ ((s.mover m).side = .read → t.kind = .move
        ∧ (∀ b ∈ outstanding s m, b.write = false)
        ∧ (s.mover m).buffer.length + enabledLanes (outstanding s m)
            = s.unitElements t (s.mover m).position * s.elementBytes t)
    ∧ ((s.mover m).side = .write →
        (∀ b ∈ outstanding s m, b.write = true)
        ∧ (s.mover m).matched ≤ s.unitElements t (s.mover m).position))

/-- A paced transfer's counts by the PACKn pulses `p` of its line since its binding, by its outcome and by B (R183). -/
abbrev PulsesSound (s : State) (m : MoverIndex) (t : Entry) : Prop :=
  ∀ n ∈ t.line,
    let p := (s.line n).pulsesOfTransfer
    let counted := (s.mover m).moved + (s.mover m).skipped
    (s.line n).pulsesBefore ≤ (s.line n).pulses
    ∧ ((s.mover m).state = .pace → p = (s.mover m).position)
    ∧ ((s.mover m).state = .run → p = (s.mover m).position + 1)
    ∧ ∀ f ∈ s.portSurface t,
        ((s.mover m).state = .pace → counted = f.burst.toNat * p)
        ∧ ((s.mover m).state = .run → counted + f.burst.toNat = f.burst.toNat * p)
        ∧ (∀ o ∈ (s.mover m).outcome, (s.mover m).state = .post →
            (o = .done → counted = t.effective ∧ p = (t.effective + f.burst.toNat - 1) / f.burst.toNat)
            ∧ (o = .short ∨ o = .timeout ∨ o = .aborted → counted = f.burst.toNat * p)
            ∧ (o = .faulted → 1 ≤ p ∧ counted = f.burst.toNat * (p - 1)))

/-- INVARIANT. Every held entry keeps what acceptance fixed, and every transfer's counts are those of its completed units:
never more than its effective count, the whole of it exactly when it ended DONE, and for a paced one those that its pulses
give (R30, R81, R86, R118, R183). -/
abbrev CountsSound (s : State) : Prop :=
  (∀ e ∈ s.queue, EntrySound s e)
  ∧ (∀ m : MoverIndex, ∀ t ∈ (s.mover m).transfer, EntrySound s t ∧ ProgressSound s m t ∧ PulsesSound s m t)

/-- Every invariant of the device together. -/
abbrev Sound (s : State) : Prop :=
  SurfacesLegal s ∧ LifeCycleSound s ∧ WithinCapacity s ∧ SequenceConsecutive s ∧ SettingsInRange s ∧ EngineSound s
  ∧ InFlightApart s ∧ DispatcherSound s ∧ PostersServed s ∧ WaitSpaceFull s ∧ CountsSound s

/-! ### The conditions of DEFINE and of acceptance, in plain numbers -/

/-- The shape has a y axis (section 1.2). -/
abbrev HasRows (sh : Option Shape) : Prop :=
  sh = some .plane ∨ sh = some .volume

/-- The code of the first failing check of Table 4-5 from check 2 on, or none (R9, R10). -/
def defineRefusal (d : Staged) (f : Surface) : Option ResultCode :=
  let es := d.elementSize.toNat
  let x := d.xExtent.toNat
  let y := if HasRows d.shape then d.yExtent.toNat else 1
  let z := if d.shape = some .volume then d.zExtent.toNat else 1
  let row := if HasRows d.shape then d.rowPitch.toNat else 0
  let slice := if d.shape = some .volume then d.slicePitch.toNat else 0
  if f.state ≠ .free then some .notFree
  else if d.shape = none then some .badShape
  else if ¬ ElementSizeLegal es then some .badSize
  else if d.shape ≠ some .port ∧ ¬ (1 ≤ x ∧ x ≤ 16384 ∧ 1 ≤ y ∧ y ≤ 16384 ∧ 1 ≤ z ∧ z ≤ 1024) then some .badExtent
  else if HasRows d.shape ∧ ¬ (row % es = 0 ∧ x * es ≤ row) then some .badPitch
  else if d.shape = some .volume ∧ ¬ (slice % es = 0 ∧ row * y ≤ slice) then some .badPitch
  else if d.base.toNat % es ≠ 0 then some .misaligned
  else if d.shape ≠ some .port ∧ 0xFFFFFFFF < lastByteOf es d.base.toNat x y z row slice then some .range
  else if d.readable = false ∧ d.writable = false then some .noAccess
  else if d.shape = some .port ∧ ¬ (1 ≤ d.burst.toNat ∧ d.burst.toNat ≤ 16) then some .badPort
  else if d.shape ≠ some .port ∧ d.bindingPresent = true then some .badPort
  else none

/-- The size is within the limits of R30. -/
abbrev SizeInLimits (n : Triple) : Prop :=
  1 ≤ n.x ∧ n.x ≤ 16384 ∧ 1 ≤ n.y ∧ n.y ≤ 16384 ∧ 1 ≤ n.z ∧ n.z ≤ 1024 ∧ n.x * n.y * n.z ≤ 16777216

/-- One side meets the shape rules of Table 2-4; `fillSide` for the destination of a FILL (R31). -/
abbrev ShapeRule (fillSide : Bool) (f : Surface) (o : Origin) (n : Triple) : Prop :=
  (f.shape = some .line → o.y = 0 ∧ o.z = 0 ∧ n.y = 1 ∧ n.z = 1)
  ∧ (f.shape = some .plane → o.z = 0 ∧ n.z = 1)
  ∧ (f.shape = some .port → fillSide = true → n.y = 1 ∧ n.z = 1)
  ∧ f.shape ≠ none

/-- The whole rectangle lies inside one side; a PORT side has no bound (R33, R35). -/
abbrev Inside (f : Surface) (o : Origin) (n : Triple) : Prop :=
  f.shape ≠ some .port →
    0 ≤ o.x ∧ o.x + n.x ≤ f.xExtent.toNat
    ∧ 0 ≤ o.y ∧ o.y + n.y ≤ f.yExtent.toNat
    ∧ 0 ≤ o.z ∧ o.z + n.z ≤ f.zExtent.toNat

/-- The entry at an index; an index of 24 or more has none (R26). -/
def entryAt (s : State) (n : Nat) : Option Surface :=
  if h : n < 24 then some (s.surface ⟨n, h⟩) else none

/-- A name that NO_SURFACE refuses (R43): no entry, or a FREE one. -/
abbrev NoSurface (s : State) (name : SurfaceName) : Prop :=
  ∀ f ∈ entryAt s name.index, f.state = .free

/-- A name that STALE refuses (R12, R43). -/
abbrev Stale (s : State) (name : SurfaceName) : Prop :=
  ∃ f ∈ entryAt s name.index, f.generation ≠ name.generation

/-- A name that DRAINING refuses (R14, R43). -/
abbrev Draining (s : State) (name : SurfaceName) : Prop :=
  ∃ f ∈ entryAt s name.index, f.state = .draining

/-- Checks 7 to 12 of Table 2-5 for a MOVE between two entries (R43 to R45). -/
def moveRefusal (c : Command) (a b : NamedSide) : Option Reason :=
  if a.surface.readable = false then some .notReadable
  else if b.surface.writable = false then some .notWritable
  else if a.surface.shape = some .port ∧ b.surface.shape = some .port then some .portPair
  else if a.surface.elementSize ≠ b.surface.elementSize then some .sizeMismatch
  else if c.keyed = true ∧ a.surface.key = none then some .noKey
  else if ¬ SizeInLimits c.size then some .badRect
  else if ¬ (ShapeRule false a.surface a.origin c.size ∧ ShapeRule false b.surface b.origin c.size) then some .badRect
  else if c.clip = false ∧ ¬ (Inside a.surface a.origin c.size ∧ Inside b.surface b.origin c.size) then some .badRect
  else if a.index ≠ b.index ∧
      footprintsMeet (a.accepted [a, b] c.size).footprint (b.accepted [a, b] c.size).footprint = true then
    some .aliased
  else none

/-- Checks 7 and 11 of Table 2-5 for a FILL (R43, R45). -/
def fillRefusal (c : Command) (b : NamedSide) : Option Reason :=
  if b.surface.writable = false then some .notWritable
  else if ¬ SizeInLimits c.size then some .badRect
  else if ¬ ShapeRule true b.surface b.origin c.size then some .badRect
  else if c.clip = false ∧ ¬ Inside b.surface b.origin c.size then some .badRect
  else none

/-- The two sides of a command with their entries, where both exist. -/
def sidesOf (s : State) (c : Command) : Option (NamedSide × NamedSide) :=
  if h : c.src.index < 24 ∧ c.dst.index < 24 then
    some
      ({ index := ⟨c.src.index, h.1⟩, surface := s.surface ⟨c.src.index, h.1⟩, origin := c.srcOrigin },
       { index := ⟨c.dst.index, h.2⟩, surface := s.surface ⟨c.dst.index, h.2⟩, origin := c.dstOrigin })
  else none

/-- The destination side of a FILL with its entry, where it exists. -/
def fillSide (s : State) (c : Command) : Option NamedSide :=
  if h : c.dst.index < 24 then
    some { index := ⟨c.dst.index, h⟩, surface := s.surface ⟨c.dst.index, h⟩, origin := c.dstOrigin }
  else none

/-- The reason of the first failing check of Table 2-5, or none (R42). -/
def acceptanceRefusal (s : State) (c : Command) : Option Reason :=
  if 16 ≤ s.queue.length then some .full
  else
    match c.kind with
    | none => some .badKind
    | some .fence => if c.clip = true ∨ c.keyed = true then some .badOption else none
    | some .fill =>
      if c.keyed = true then some .badOption
      else if NoSurface s c.dst then some .noSurface
      else if Stale s c.dst then some .stale
      else if Draining s c.dst then some .draining
      else (fillSide s c).bind (fillRefusal c)
    | some .move =>
      if NoSurface s c.src ∨ NoSurface s c.dst then some .noSurface
      else if Stale s c.src ∨ Stale s c.dst then some .stale
      else if Draining s c.src ∨ Draining s c.dst then some .draining
      else (sidesOf s c).bind fun d => moveRefusal c d.1 d.2

/-- The command names the surface (R16). -/
abbrev Names (c : Command) (i : SurfaceIndex) : Prop :=
  (c.kind = some .move ∧ c.src.index = i.val) ∨ (c.kind ≠ some .fence ∧ c.dst.index = i.val)

/-- A side of an accepted entry: its surface, its effective origin (R34) and its effective footprint (R38). -/
abbrev SideIs (x : Option Side) (sides : List NamedSide) (size : Triple) (d : NamedSide) : Prop :=
  x = some {
    surface := d.index
    origin := effectiveOrigin sides d
    footprint := footprint d.surface (effectiveOrigin sides d) (effectiveSize size sides) }

/-- The translation vector of a MOVE is greater than zero: the first component that is not zero, z before y before x, is
positive (R40). -/
abbrev VectorAboveZero (src dst : Origin) : Prop :=
  0 < dst.z - src.z ∨ (dst.z - src.z = 0 ∧ (0 < dst.y - src.y ∨ (dst.y - src.y = 0 ∧ 0 < dst.x - src.x)))

/-- The pacing line of a PORT side (R32). -/
def lineOf (f : Surface) : Option LineIndex :=
  if f.shape = some .port then f.binding else none

/-- What acceptance in state `s` computes of a MOVE: sides, effective size, direction and pacing line (Table 2-6, R32, R34,
R38, R40). -/
abbrev MoveOf (s : State) (c : Command) (e : Entry) : Prop :=
  ∃ d ∈ sidesOf s c,
    SideIs e.src [d.1, d.2] c.size d.1 ∧ SideIs e.dst [d.1, d.2] c.size d.2
    ∧ e.size = effectiveSize c.size [d.1, d.2]
    ∧ (e.descending = true ↔
        d.1.index = d.2.index ∧ footprintsMeet e.reads e.writes = true ∧ VectorAboveZero c.srcOrigin c.dstOrigin)
    ∧ e.line = (lineOf d.1.surface <|> lineOf d.2.surface)

/-- What acceptance in state `s` computes of a FILL (Table 2-6, R32, R34, R38, R40). -/
abbrev FillOf (s : State) (c : Command) (e : Entry) : Prop :=
  ∃ d ∈ fillSide s c,
    SideIs e.dst [d] c.size d ∧ e.size = effectiveSize c.size [d] ∧ e.descending = false ∧ e.line = lineOf d.surface

/-- The entry is the command accepted in state `s` (R46, Table 2-6): what it copies, and what acceptance computes. -/
abbrev EntryOf (s : State) (c : Command) (e : Entry) : Prop :=
  some e.kind = c.kind ∧ e.tag = c.tag ∧ e.signal = c.signal ∧ e.cancelled = false
  ∧ e.clip = c.clip ∧ e.keyed = c.keyed
  ∧ e.src.map (fun d => d.surface.val) = (if e.kind = .move then some c.src.index else none)
  ∧ e.dst.map (fun d => d.surface.val) = (if e.kind = .fence then none else some c.dst.index)
  ∧ e.fill = (if e.kind = .fill then c.fill else 0)
  ∧ e.requested = (if e.kind = .fence then 0 else c.size.x * c.size.y * c.size.z)
  ∧ e.effective + e.clipped = e.requested
  ∧ (c.clip = false → e.clipped = 0)
  ∧ (c.kind = some .move → MoveOf s c e)
  ∧ (c.kind = some .fill → FillOf s c e)
  ∧ (c.kind = some .fence → e.effective = 0 ∧ e.descending = false ∧ e.line = none)

/-- The surface table after an acceptance: one more reference for each distinct surface named (R16). -/
abbrev Referenced (s t : State) (c : Command) : Prop :=
  ∀ i : SurfaceIndex,
    t.surface i =
      { s.surface i with refcount := (s.surface i).refcount + (if Names c i then 1 else 0) }

/-! ### Registers that only the host changes -/

/-- Everything outside the engine is as before: what the host writes, the results it reads, the time base, the reset
input, and the model's queue of commands. -/
abbrev HostSideKept (s t : State) : Prop :=
  t.pending = s.pending ∧ t.inReset = s.inReset
  ∧ t.surfaceStaging = s.surfaceStaging ∧ t.surfaceSelect = s.surfaceSelect ∧ t.commandStaging = s.commandStaging
  ∧ t.postResult = s.postResult ∧ t.controlResult = s.controlResult ∧ t.badAccess = s.badAccess
  ∧ t.timeBase = s.timeBase ∧ t.divider = s.divider ∧ t.listAddress = s.listAddress
  ∧ t.enables = s.enables ∧ t.completionThreshold = s.completionThreshold ∧ t.lowWater = s.lowWater
  ∧ ∀ n : LineIndex, (t.line n).mode = (s.line n).mode ∧ (t.line n).timeout = (s.line n).timeout

/-! ### Commands from end to end -/

/-- What identifies a command from its acceptance to its record: kind, tag, SIGNAL and clipped count (R24, R27, R34). -/
structure Ticket where
  kind : Kind
  tag : Tag
  signal : Bool
  clipped : Nat
deriving DecidableEq, Repr

def ticketOf (e : Entry) : Ticket :=
  { kind := e.kind, tag := e.tag, signal := e.signal, clipped := e.clipped }

def ticketOfRecord (r : Completion) : Ticket :=
  { kind := r.kind, tag := r.tag, signal := r.signal, clipped := r.clipped }

/-- The commands that the device holds or has reported and not yet had popped. -/
def tickets (s : State) : List Ticket :=
  s.queue.map ticketOf ++ s.inFlight.map ticketOf ++ s.completions.map ticketOfRecord

/-- The device holds the accepted entry, in the queue or on a mover, or has reported it (R24, R66, R92). -/
abbrev HeldOrReported (t : State) (e : Entry) : Prop :=
  e ∈ t.queue ∨ (∃ m : MoverIndex, (t.mover m).transfer = some e) ∨ ∃ r ∈ t.completions, ticketOfRecord r = ticketOf e

/-- The record that the dispatcher posts for a head, first of those that the event posts (R59, R60, R61, R120). -/
abbrev ReportsFirst (s u : State) (e : Entry) (o : Outcome) (more : List Completion) : Prop :=
  u.completions = s.completions ++
    { tag := e.tag, kind := e.kind, outcome := o, mover := none, signal := e.signal, sequence := s.sequence,
      moved := 0, skipped := 0, clipped := e.clipped, fault := none } :: more

/-- The entry as it was, or with its cancelled mark set (R48). -/
abbrev SameOrMarked (a b : Entry) : Prop :=
  b = a ∨ b = { a with cancelled := true }

/-- A state in which a transfer can end with nothing else happening: the window is open, the dispatcher has nothing to take (it
is in HALT, or the command queue is empty), and where a completion slot is free the other mover is not waiting to post. -/
abbrev QuietEnd (s : State) (m : MoverIndex) : Prop :=
  s.inReset = false ∧ (s.dispatcher.halted = true ∨ s.queue = [])
  ∧ (s.completions.length < 32 → ∀ k : MoverIndex, k ≠ m → (s.mover k).state ≠ .post)

/-- A DRAINING surface whose last reference is given back (R17). -/
abbrev FreedBy (s : State) (named : List SurfaceIndex) (i : SurfaceIndex) : Prop :=
  i ∈ named ∧ (s.surface i).state = .draining ∧ (s.surface i).refcount ≤ 1

/-- Each surface named gives back one reference: a DRAINING one that falls to 0 becomes FREE with its FREED_SET bit and the FREED
cause, and a DEFINED one stays DEFINED (R17, R19, R20). -/
abbrev ReturnsRefs (s u : State) (named : List SurfaceIndex) : Prop :=
  (∀ i : SurfaceIndex, u.surface i =
    { s.surface i with
      refcount := (s.surface i).refcount - (if i ∈ named then 1 else 0)
      state := if FreedBy s named i then .free else (s.surface i).state })
  ∧ (∀ i : SurfaceIndex, u.freedSet.getLsbD i.val = (s.freedSet.getLsbD i.val || decide (FreedBy s named i)))
  ∧ u.causeSet .freed = (s.causeSet .freed || decide (∃ i : SurfaceIndex, FreedBy s named i))

/-- The line of a transfer has gone to IDLE, and the others are as before (R113). -/
abbrev LineReleased (s u : State) (line : Option LineIndex) : Prop :=
  ∀ n : LineIndex, u.line n =
    if line = some n then
      { s.line n with state := .idle, bound := none, timerRunning := false, endSeen := false }
    else s.line n

/-- The transfer `t` of mover `m` has ended and its record is posted (R92, R94, R113, R121): the record, the mover IDLE, its
line released and the others as before, one reference back for each surface. -/
abbrev EndsWith (s u : State) (m : MoverIndex) (t : Entry) (o : Outcome) (moved skipped : Nat)
    (fault : Option FaultItem) : Prop :=
  u.completions = s.completions ++
    [{ tag := t.tag, kind := t.kind, outcome := o, mover := some m, signal := t.signal, sequence := s.sequence,
       moved := moved, skipped := skipped, clipped := t.clipped, fault := fault }]
  ∧ u.sequence = s.sequence + 1
  ∧ u.mover m = Mover.idle
  ∧ u.queue = s.queue
  ∧ LineReleased s u t.line
  ∧ ReturnsRefs s u t.surfaces
  ∧ (u.causeSet .completion = (s.causeSet .completion || decide (s.completionThreshold ≤ s.completions.length + 1)))
  ∧ (u.causeSet .signal = (s.causeSet .signal || t.signal))
  ∧ HostSideKept s u

/-- The transfer `t` of mover `m` has ended at a full completion queue (R92, R93, R113, R122): the mover stays in POST with its
transfer, outcome and counts, its line is released, its references stay, and no record is posted. -/
abbrev WaitsInPost (s u : State) (m : MoverIndex) (t : Entry) (o : Outcome) (moved skipped : Nat)
    (fault : Option FaultItem) : Prop :=
  (u.mover m).state = .post ∧ (u.mover m).transfer = some t ∧ (u.mover m).outcome = some o
  ∧ (u.mover m).moved = moved ∧ (u.mover m).skipped = skipped ∧ (u.mover m).fault = fault ∧ (u.mover m).bursts = []
  ∧ (∀ k : MoverIndex, k ≠ m → (u.mover k).state = (s.mover k).state ∧ (u.mover k).transfer = (s.mover k).transfer)
  ∧ u.completions = s.completions ∧ u.sequence = s.sequence ∧ u.queue = s.queue
  ∧ u.surfaces = s.surfaces ∧ u.freedSet = s.freedSet
  ∧ LineReleased s u t.line
  ∧ (∀ k : Cause, k ≠ .halt → u.causeSet k = s.causeSet k)
  ∧ HostSideKept s u

/-- The end of a transfer: its record is posted where the completion queue has room, and else its mover waits in POST (R121,
R122). -/
abbrev Ends (s u : State) (m : MoverIndex) (t : Entry) (o : Outcome) (moved skipped : Nat)
    (fault : Option FaultItem) : Prop :=
  (s.completions.length < 32 → EndsWith s u m t o moved skipped fault)
  ∧ (32 ≤ s.completions.length → WaitsInPost s u m t o moved skipped fault)

/-- `m` is the lowest-numbered IDLE mover (R63). -/
abbrev LowestIdle (s : State) (m : MoverIndex) : Prop :=
  (s.mover m).state = .idle ∧ (m = 1 → (s.mover 0).state ≠ .idle)

/-- `l` is the lower end L of an axis: the largest of 0 and the negated origins of the bounded sides (R33). -/
abbrev LowerEnd (sides : List NamedSide) (origin : NamedSide → Int) (l : Int) : Prop :=
  0 ≤ l ∧ (∀ d ∈ sides, d.surface.shape ≠ some .port → -(origin d) ≤ l)
  ∧ (l = 0 ∨ ∃ d ∈ sides, d.surface.shape ≠ some .port ∧ l = -(origin d))

/-- The bytes of memory that a word address selects, little-endian (R176). -/
def wordAt (mem : Nat → Byte) (a : Nat) : Word :=
  (mem (a + 3) ++ mem (a + 2)) ++ (mem (a + 1) ++ mem a)

/-- The place of an element in the ascending order of a rectangle: z, then y, then x (R75). -/
def rank (size : Triple) (p : Triple) : Nat :=
  (p.z * size.y + p.y) * size.x + p.x

/-- The offset lies in the rectangle. -/
abbrev InBox (size p : Triple) : Prop :=
  p.x < size.x ∧ p.y < size.y ∧ p.z < size.z

/-- The element is one of the run's. -/
abbrev InRun (r : Run) (p : Triple) : Prop :=
  p.y = r.offset.y ∧ p.z = r.offset.z ∧ r.offset.x ≤ p.x ∧ p.x < r.offset.x + r.length

/-- A byte of a range that may be absent. -/
abbrev InFootprint (r : Option Range) (a : Nat) : Prop :=
  ∃ x ∈ r, x.lo ≤ a ∧ a ≤ x.hi

/-! ### The data that a unit moves (spec/04) -/

/-- The low bytes of a word, the least significant first (R29, R37). -/
def leastBytes (n : Nat) (w : Word) : List Byte :=
  (List.range n).map fun i => BitVec.ofNat 8 (w.toNat / 256 ^ i)

/-- A buffer of `n` elements, element by element (R77). -/
def pieces (size n : Nat) (bytes : List Byte) : List (List Byte) :=
  (List.range n).map fun j => (bytes.drop (j * size)).take size

/-- The offsets of a unit's elements within the effective rectangle, in element order (R75, R82). -/
def unitOffsets (s : State) (t : Entry) (p : Nat) : List Triple :=
  (s.unitRuns t p).flatMap fun r => (List.range r.length).map fun j => { r.offset with x := r.offset.x + j }

/-- A source element equal, over all its bytes, to the key of the source surface of a KEYED MOVE (R37, R80). -/
abbrev MatchesKey (s : State) (t : Entry) (element : List Byte) : Prop :=
  t.keyed = true ∧ ∃ d ∈ t.src, ∃ k ∈ (s.surface d.surface).key, element = leastBytes (s.elementBytes t) k

/-- How many elements match the key (R80). -/
def matching (s : State) (t : Entry) (elements : List (List Byte)) : Nat :=
  elements.countP fun el => decide (MatchesKey s t el)

/-- The elements of the unit lie at addresses of the address space (R3, R4). -/
abbrev UnitAddressed (s : State) (t : Entry) (p : Nat) (d : Side) : Prop :=
  (s.surface d.surface).elementSize.toNat = s.elementBytes t
  ∧ ∀ o ∈ unitOffsets s t p, (s.surface d.surface).address (d.origin.add o) + s.elementBytes t ≤ 2 ^ 32

/-- The bursts that a unit requests when it starts: the read side of a MOVE, the write side of a FILL (R74, R79, R81). -/
def startPlan (s : State) (t : Entry) (p : Nat) : List Burst :=
  if t.kind = .fill then s.writePlan t p (List.replicate (s.unitElements t p) (leastBytes (s.elementBytes t) t.fill))
  else s.readPlan t p

/-- The last beat of a burst completes the unit in progress, with `k` matching elements: it ends the write side (R81, R86), or
it ends the read side of a MOVE into a port whose elements all match (R85). -/
abbrev EndsUnit (s : State) (m : MoverIndex) (t : Entry) (write : Bool) (b : Beat) (data : Word) (k : Nat) : Prop :=
  let n := s.unitElements t (s.mover m).position
  let whole := (s.mover m).buffer ++ laneBytes b.enables data
  (write = true ∧ (s.mover m).side = .write ∧ k = (s.mover m).matched)
  ∨ (write = false ∧ (s.mover m).side = .read ∧ (∃ d ∈ t.dst, (s.surface d.surface).shape = some .port)
      ∧ ElementSizeLegal (s.elementBytes t) ∧ whole.length = n * s.elementBytes t
      ∧ (∀ el ∈ pieces (s.elementBytes t) n whole, MatchesKey s t el) ∧ k = n)

end Sys2Proof.Safety
end

