-- ==== Sys2Proof/Certificates/Slice0/Obligations.lean ====
section
/-! DEFINITION. The statements about the LT-2416, one Prop each, for the provers. OBLIGATIONS.json lists them. -/

open Sys2Proof Sys2Proof.Machine Sys2Proof.Safety

/-! ### The step and the resets -/

/-- A step takes the command at the front of the queue and runs it on the state with the rest; an empty queue idles. The
queue is the model's choice (log 2). -/
def Obligations.StepRunsFrontCommand : Prop :=
  ∀ (c : Instr) (rest : List Instr) (s : State),
    step { s with pending := c :: rest } = exec c { s with pending := rest }
    ∧ step { s with pending := [] } = .next { s with pending := [] }

/-- Every command has a next state in every state, and leaves the queue of waiting commands alone. That none ever faults or is
refused is the model's choice (log 27), and so is the queue (log 2). -/
def Obligations.EveryCommandCompletes : Prop :=
  ∀ (i : Instr) (s : State), ∃ t, exec i s = .next t ∧ t.pending = s.pending

/-- FULL_RESET and RESET_RELEASE: whatever the state before, the device comes out at its reset values, but for the levels on
the PREQn inputs; meanwhile nothing else changes it but those levels (the model's reading, log 7). RESETn going high in
operation is no event (log 15); the model's own fields stay (log 2, log 10). -/
def Obligations.FullResetAndRelease : Prop :=
  ∀ s : State,
    (∃ t, exec .fullReset s = .next t ∧ t.inReset = true ∧ t.divider = none
      ∧ exec .resetRelease t =
          .next { State.reset with
            pending := s.pending
            draws := s.draws
            lines := Vector.ofFn fun n => { PacingLine.reset with request := (s.line n).request } })
    ∧ (s.inReset = false → exec .resetRelease s = .next s)
    ∧ (s.inReset = true →
        (∀ n : LineIndex,
          exec (.preqActive n) s = .next (s.setLine n { s.line n with request := true })
          ∧ exec (.preqInactive n) s = .next (s.setLine n { s.line n with request := false }))
        ∧ ∀ i : Instr, i ≠ .fullReset → i ≠ .resetRelease → (∀ n, i ≠ .preqActive n ∧ i ≠ .preqInactive n) →
            exec i s = .next s)

/-- Every register reads after full reset as Table 9-1 gives; PACING_STATUS, whose request bits the table gives as inputs, reads
0 by the model's choice of inactive PREQn inputs (log 4). -/
def Obligations.RegistersAfterFullReset : Prop :=
  ∀ offset : Offset,
    State.reset.readRegister offset =
      if offset = 0x00 then 0x00012416
      else if offset = 0x06 then 0x00000801
      else if offset = 0x07 then 100
      else 0

/-! ### Surfaces -/

/-- DEFINE with every check passed: the entry holds the staged description, with the values of Table 4-2 in the fields its
shape does not use, and CONTROL_RESULT the new generation (R11). Nothing else changes. -/
def Obligations.DefineStoresDescription : Prop :=
  ∀ (s : State) (i : SurfaceIndex), s.inReset = false →
    let d := decodeStaging s.surfaceStaging
    defineRefusal d (s.surface i) = none →
    ∃ f : Surface,
      exec (.define (BitVec.ofNat 8 i.val)) s =
        .next { s.setSurface i f with
          controlResult := { code := .ok, value := BitVec.ofNat 24 f.generation.toNat } }
      ∧ f.state = .defined ∧ f.refcount = 0 ∧ f.generation = (s.surface i).generation + 1
      ∧ f.shape = d.shape ∧ f.elementSize = d.elementSize ∧ f.readable = d.readable ∧ f.writable = d.writable
      ∧ f.base = d.base
      ∧ f.xExtent = (if d.shape = some .port then 0 else d.xExtent)
      ∧ f.yExtent = (if d.shape = some .port then 0 else if d.shape = some .line then 1 else d.yExtent)
      ∧ f.zExtent = (if d.shape = some .port then 0 else if d.shape = some .volume then d.zExtent else 1)
      ∧ f.rowPitch = (if HasRows d.shape then d.rowPitch else 0)
      ∧ f.slicePitch = (if d.shape = some .volume then d.slicePitch else 0)
      ∧ f.key = (if d.keyPresent then some (BitVec.ofNat 32 (d.key.toNat % 256 ^ d.elementSize.toNat)) else none)
      ∧ f.binding = (if d.shape = some .port ∧ d.bindingPresent = true then some d.line else none)
      ∧ f.burst = (if d.shape = some .port then d.burst else 0)

/-- DEFINE refused: CONTROL_RESULT takes the code of the first failing check of Table 4-5, with value 0, and nothing else
changes (R9, R10). -/
def Obligations.DefineRefusedInOrder : Prop :=
  ∀ (s : State), s.inReset = false →
    (∀ index : BitVec 8, 24 ≤ index.toNat →
      exec (.define index) s = .next { s with controlResult := { code := .index, value := 0 } })
    ∧ (∀ (i : SurfaceIndex) (code : ResultCode),
        defineRefusal (decodeStaging s.surfaceStaging) (s.surface i) = some code →
        exec (.define (BitVec.ofNat 8 i.val)) s = .next { s with controlResult := { code := code, value := 0 } })

/-- RELEASE, by index and state as the table of R13 gives; the descriptor and the generation stay and no cause is
raised. -/
def Obligations.ReleaseByState : Prop :=
  ∀ (s : State), s.inReset = false →
    (∀ index : BitVec 8, 24 ≤ index.toNat →
      exec (.release index) s = .next { s with controlResult := { code := .index, value := 0 } })
    ∧ ∀ i : SurfaceIndex,
      let f := s.surface i
      ((s.surface i).state = .free →
        exec (.release (BitVec.ofNat 8 i.val)) s =
          .next { s with controlResult := { code := .notDefined, value := 0 } })
      ∧ ((s.surface i).state = .defined → (s.surface i).refcount = 0 →
        exec (.release (BitVec.ofNat 8 i.val)) s =
          .next { s.setSurface i { f with state := .free } with
            freedSet := s.freedSet ||| (1#24 <<< i.val)
            controlResult := { code := .ok, value := 0 } })
      ∧ ((s.surface i).state = .defined → 0 < (s.surface i).refcount →
        exec (.release (BitVec.ofNat 8 i.val)) s =
          .next { s.setSurface i { f with state := .draining } with
            controlResult := { code := .deferred, value := BitVec.ofNat 24 f.refcount } })
      ∧ ((s.surface i).state = .draining →
        exec (.release (BitVec.ofNat 8 i.val)) s =
          .next { s with controlResult := { code := .alreadyDraining, value := BitVec.ofNat 24 f.refcount } })

/-- Only DEFINE and full reset change a descriptor or a generation (R1, R12). -/
def Obligations.OnlyDefineDescribes : Prop :=
  ∀ (i : Instr) (s t : State), i.wellFormed = true → exec i s = .next t →
    (∀ k, i ≠ .define k) → i ≠ .fullReset → ∀ j : SurfaceIndex, SameDescription (s.surface j) (t.surface j)

/-- INVARIANT: every entry that is not FREE keeps a legal description, through every command (R10, R11). -/
def Obligations.DescriptionsStayLegal : Prop :=
  ∀ (i : Instr) (s t : State), SurfacesLegal s → exec i s = .next t → SurfacesLegal t

/-- INVARIANT: reference counts stay exact, FREE entries have none and DRAINING ones some, through every command (R14,
R16 to R18, R23). -/
def Obligations.ReferencesStayExact : Prop :=
  ∀ (i : Instr) (s t : State), LifeCycleSound s → exec i s = .next t → LifeCycleSound t

/-- Elements of one legal surface: aligned, inside the whole-surface footprint, and no two share a byte (R3, R4). -/
def Obligations.ElementsShareNoByte : Prop :=
  ∀ (f : Surface) (p q : Triple), DescriptorLegal f → f.shape ≠ some .port →
    InBox { x := f.xExtent.toNat, y := f.yExtent.toNat, z := f.zExtent.toNat } p →
    InBox { x := f.xExtent.toNat, y := f.yExtent.toNat, z := f.zExtent.toNat } q →
    f.address p % f.elementSize.toNat = 0
    ∧ f.base.toNat ≤ f.address p
    ∧ f.address p + f.elementSize.toNat - 1 ≤
        lastByteOf f.elementSize.toNat f.base.toNat f.xExtent.toNat f.yExtent.toNat f.zExtent.toNat
          f.rowPitch.toNat f.slicePitch.toNat
    ∧ f.address p + f.elementSize.toNat - 1 ≤ 0xFFFFFFFF
    ∧ (p ≠ q → f.address p + f.elementSize.toNat ≤ f.address q ∨ f.address q + f.elementSize.toNat ≤ f.address p)

/-! ### Acceptance -/

/-- The fields of a command record stand where Table 9-5 puts them, and the bits between them are ignored (R171,
R172); `u` to `z` are the ignored bits. -/
def Obligations.CommandRecordFields : Prop :=
  ∀ (kind : BitVec 4) (clip keyed signal : Bool) (tag : Tag) (si di : BitVec 5) (sg dg : BitVec 4)
    (sx sy sz dx dy dz w h d : BitVec 16) (u u' : BitVec 16) (v : BitVec 1) (a b : BitVec 3) (x y : BitVec 4),
    let words : List Word :=
      [ u ++ tag ++ v ++ BitVec.ofBool signal ++ BitVec.ofBool keyed ++ BitVec.ofBool clip ++ kind,
        x ++ dg ++ a ++ di ++ y ++ sg ++ b ++ si,
        sy ++ sx, dx ++ sz, dz ++ dy, h ++ w, u' ++ d ]
    decodeCommand words =
      { kind := if kind = 1 then some .move else if kind = 2 then some .fill else if kind = 3 then some .fence else none
        tag := tag
        clip := clip
        keyed := keyed
        signal := signal
        src := { index := si.toNat, generation := sg }
        dst := { index := di.toNat, generation := dg }
        srcOrigin := { x := sx.toInt, y := sy.toInt, z := sz.toInt }
        dstOrigin := { x := dx.toInt, y := dy.toInt, z := dz.toInt }
        fill := sy ++ sx
        size := { x := w.toNat, y := h.toNat, z := d.toNat } }

/-- POST refused: POST_RESULT takes the reason of the first failing check of Table 2-5, the staged tag and the queue count,
and nothing else changes (R42 to R45, R49, R50). -/
def Obligations.PostRefusedInOrder : Prop :=
  ∀ (s : State) (r : Reason), s.inReset = false →
    let c := decodeCommand s.commandStaging.toList
    acceptanceRefusal s c = some r →
    exec .post s = .next { s with postResult := { code := .refused r, tag := c.tag, count := s.queue.length } }

/-- POST accepted: POST_RESULT with the count of the acceptance, and the entry held or reported. Behind other entries, or in HALT,
the entry stands at the tail with one reference for each distinct surface, and nothing else changes. In an empty queue in RUN
it is the head and is examined in the event: it waits with its reason, or for a completion slot, or is reported, or the
lowest-numbered IDLE mover takes it (R46, R49, R50, R57 to R63, R66, R68, R69). -/
def Obligations.PostAppendsEntry : Prop :=
  ∀ s : State, s.inReset = false →
    let c := decodeCommand s.commandStaging.toList
    let result : PostResult := { code := .accepted, tag := c.tag, count := s.queue.length + 1 }
    acceptanceRefusal s c = none →
    (∃ (e : Entry) (t : State), exec .post s = .next t ∧ EntryOf s c e ∧ HeldOrReported t e ∧ t.postResult = result
      ∧ HostSideKept { s with postResult := result } t)
    ∧ ((s.queue ≠ [] ∨ s.dispatcher.halted = true) →
      ∃ (e : Entry) (table : Vector Surface 24),
        exec .post s = .next { s with queue := s.queue ++ [e], surfaces := table, postResult := result }
        ∧ EntryOf s c e ∧ Referenced s { s with surfaces := table } c)
    ∧ (s.queue = [] → s.dispatcher.halted = false →
      ∃ (e : Entry) (table : Vector Surface 24),
        EntryOf s c e ∧ Referenced s { s with surfaces := table } c ∧
        let taken : State := { s with queue := [e], surfaces := table, postResult := result }
        let waits := fun (r : WaitReason) (slot : Bool) =>
          exec .post s =
            .next { taken with dispatcher := { s.dispatcher with waitReason := r, slotRequest := slot } }
        (∀ r : WaitReason, holdOf s e = some r → waits r false)
        ∧ (∀ o : Outcome, reportOf s e = some o →
            (32 ≤ s.completions.length → waits .space true)
            ∧ (s.completions.length < 32 →
                ∃ t, exec .post s = .next t ∧ ReportsFirst s t e o [] ∧ ReturnsRefs taken t e.surfaces
                  ∧ t.queue = [] ∧ t.sequence = s.sequence + 1 ∧ t.movers = s.movers ∧ t.lines = s.lines
                  ∧ t.dispatcher = { s.dispatcher with waitReason := .none, slotRequest := false }))
        ∧ (∀ m : MoverIndex, reportOf s e = none → holdOf s e = none → LowestIdle s m →
            ((taken.issue e m).mover m).transfer = some e
            ∧ exec .post s =
                .next { taken.issue e m with
                  dispatcher := { s.dispatcher with waitReason := .none, slotRequest := false } }))

/-- POST of a FENCE into an empty queue of an idle device with a free completion slot: its record is posted in the same
event, and POST_RESULT still shows the count of the acceptance (R49, R50, R60, R121). -/
def Obligations.PostedFenceReportsAtOnce : Prop :=
  ∀ s : State, s.inReset = false →
    let c := decodeCommand s.commandStaging.toList
    acceptanceRefusal s c = none → c.kind = some .fence → s.queue = [] → s.dispatcher.halted = false →
    (s.mover 0).state = .idle → (s.mover 1).state = .idle → s.completions.length < 32 →
    ∃ t, exec .post s = .next t
      ∧ t.queue = []
      ∧ t.postResult = { code := .accepted, tag := c.tag, count := 1 }
      ∧ t.completions = s.completions ++
          [{ tag := c.tag, kind := .fence, outcome := .fence, mover := none, signal := c.signal,
             sequence := s.sequence, moved := 0, skipped := 0, clipped := 0, fault := none }]
      ∧ t.sequence = s.sequence + 1
      ∧ t.dispatcher = { s.dispatcher with waitReason := .none, slotRequest := false }
      ∧ t.surfaces = s.surfaces ∧ t.movers = s.movers ∧ t.lines = s.lines ∧ t.grant = s.grant
      ∧ (∀ k : Cause, t.causeSet k =
          (s.causeSet k
            || (k == .completion && decide (s.completionThreshold ≤ s.completions.length + 1))
            || (k == .signal && c.signal)
            || (k == .lowWater && s.lowWater == 16)))

/-- Clipping: on each axis the offsets that are valid on every bounded side are the run that starts at L and has the
effective size of the axis; a PORT side bounds nothing (R33). -/
def Obligations.ClippingKeepsValidOffsets : Prop :=
  ∀ (size : Triple) (sides : List NamedSide) (i : Int),
    ((0 ≤ i ∧ i < size.x ∧ ∀ d ∈ sides, d.surface.shape ≠ some .port →
        0 ≤ d.origin.x + i ∧ d.origin.x + i < d.surface.xExtent.toNat)
      ↔ axisLow (boundsX sides) ≤ i ∧ i < axisLow (boundsX sides) + (effectiveSize size sides).x)
    ∧ ((0 ≤ i ∧ i < size.y ∧ ∀ d ∈ sides, d.surface.shape ≠ some .port →
        0 ≤ d.origin.y + i ∧ d.origin.y + i < d.surface.yExtent.toNat)
      ↔ axisLow (boundsY sides) ≤ i ∧ i < axisLow (boundsY sides) + (effectiveSize size sides).y)
    ∧ ((0 ≤ i ∧ i < size.z ∧ ∀ d ∈ sides, d.surface.shape ≠ some .port →
        0 ≤ d.origin.z + i ∧ d.origin.z + i < d.surface.zExtent.toNat)
      ↔ axisLow (boundsZ sides) ≤ i ∧ i < axisLow (boundsZ sides) + (effectiveSize size sides).z)

/-- The effective origin of a side (R34): (0, 0, 0) for a PORT, else its origin plus the lower end of each axis. The effective
footprint of a side (R38): none for an empty rectangle; the element_size bytes at the base for a PORT; of a
memory side from the first byte of its first element to the last byte of its last, over every element of the effective
rectangle, inside the whole-surface footprint (R4, R34). -/
def Obligations.FootprintCoversRectangle : Prop :=
  ∀ (sides : List NamedSide) (size : Triple) (d : NamedSide),
    let e := effectiveSize size sides
    (d.surface.shape = some .port → effectiveOrigin sides d = { x := 0, y := 0, z := 0 })
    ∧ (d ∈ sides → d.surface.shape ≠ some .port →
        ∃ lx ly lz : Int,
          LowerEnd sides (fun d => d.origin.x) lx ∧ LowerEnd sides (fun d => d.origin.y) ly
          ∧ LowerEnd sides (fun d => d.origin.z) lz
          ∧ (effectiveOrigin sides d).x = d.origin.x + lx ∧ (effectiveOrigin sides d).y = d.origin.y + ly
          ∧ (effectiveOrigin sides d).z = d.origin.z + lz)
    ∧ (e.x * e.y * e.z = 0 → (d.accepted sides size).footprint = none)
    ∧ (e.x * e.y * e.z ≠ 0 → d.surface.shape = some .port →
        (d.accepted sides size).footprint =
          some { lo := d.surface.base.toNat, hi := d.surface.base.toNat + d.surface.elementSize.toNat - 1 })
    ∧ ∀ p : Triple, d ∈ sides → DescriptorLegal d.surface → d.surface.shape ≠ some .port → InBox e p →
        ∃ r, (d.accepted sides size).footprint = some r
          ∧ r.lo = d.surface.address (effectiveOrigin sides d)
          ∧ r.lo ≤ d.surface.address ((effectiveOrigin sides d).add p)
          ∧ d.surface.address ((effectiveOrigin sides d).add p) + d.surface.elementSize.toNat - 1 ≤ r.hi
          ∧ (p.x + 1 = e.x → p.y + 1 = e.y → p.z + 1 = e.z →
              r.hi = d.surface.address ((effectiveOrigin sides d).add p) + d.surface.elementSize.toNat - 1)
          ∧ d.surface.base.toNat ≤ r.lo
          ∧ r.hi ≤ lastByteOf d.surface.elementSize.toNat d.surface.base.toNat d.surface.xExtent.toNat
              d.surface.yExtent.toNat d.surface.zExtent.toNat d.surface.rowPitch.toNat d.surface.slicePitch.toNat

/-! ### Dispatch -/

/-- Two commands conflict exactly when they share a byte that at least one of them writes (R64). -/
def Obligations.ConflictMeansSharedByte : Prop :=
  ∀ a b : Entry,
    (∀ r ∈ a.reads, r.lo ≤ r.hi) → (∀ r ∈ a.writes, r.lo ≤ r.hi) →
    (∀ r ∈ b.reads, r.lo ≤ r.hi) → (∀ r ∈ b.writes, r.lo ≤ r.hi) →
    (a.conflicts b = true ↔
      ∃ x : Nat, (InFootprint a.reads x ∧ InFootprint b.writes x)
        ∨ (InFootprint a.writes x ∧ InFootprint b.reads x)
        ∨ (InFootprint a.writes x ∧ InFootprint b.writes x))

/-- Issue of a head: the three conditions of R63 and the lowest IDLE mover, and what the issue leaves (R55, R63, R66, R74). An
unpaced transfer starts its first unit. A paced one binds its line: mode and timeout latched, the end-seen latch clear,
and the first burst admitted at once with PREQn active, else WAIT with the timer loaded (R101, R102, R107; the counts of
pulses are the model's, log 28). -/
def Obligations.IssueToLowestIdleMover : Prop :=
  ∀ (s : State) (e : Entry) (q : List Entry) (m : MoverIndex),
    s.queue = e :: q → e.cancelled = false → e.kind ≠ .fence → e.isEmpty = false →
    let u := s.issue e m
    (s.decision e = .issue m ↔
      (∀ t ∈ s.inFlight, e.conflicts t = false ∧ (e.line = none ∨ e.line ≠ t.line))
      ∧ (s.mover m).state = .idle ∧ (m = 1 → (s.mover 0).state ≠ .idle))
    ∧ (u.queue = q
        ∧ (u.mover m).transfer = some e ∧ (u.mover m).moved = 0 ∧ (u.mover m).skipped = 0
        ∧ (u.mover m).position = 0 ∧ (u.mover m).stop = false ∧ (u.mover m).outcome = none
        ∧ (∀ k : MoverIndex, k ≠ m → u.mover k = s.mover k)
        ∧ u.surfaces = s.surfaces ∧ u.completions = s.completions ∧ u.dispatcher = s.dispatcher
        ∧ ∀ k : Cause, u.causeSet k = (s.causeSet k || (k == .lowWater && s.lowWater == 16 - q.length)))
    ∧ (e.line = none →
        (u.mover m).state = .run ∧ u.lines = s.lines
        ∧ ((∀ g ∈ s.grant, g.live = true → g.owner ≠ .mover m) → outstanding u m = startPlan s e 0))
    ∧ ∀ n : LineIndex, e.line = some n →
        (∀ k : LineIndex, k ≠ n → u.line k = s.line k)
        ∧ ((s.line n).request = true →
            (u.mover m).state = .run ∧ u.packActive n = true
            ∧ u.line n = { s.line n with
                state := .burst, bound := some m, latchedMode := (s.line n).mode, latchedTimeout := (s.line n).timeout
                endSeen := false, timerRunning := false
                pulses := (s.line n).pulses + 1, pulsesBefore := (s.line n).pulses }
            ∧ ((∀ g ∈ s.grant, g.live = true → g.owner ≠ .mover m) → outstanding u m = startPlan s e 0))
        ∧ ((s.line n).request = false →
            (u.mover m).state = .pace ∧ u.packActive n = false
            ∧ u.line n = { s.line n with
                state := .wait, bound := some m, latchedMode := (s.line n).mode, latchedTimeout := (s.line n).timeout
                endSeen := false, timerCount := (s.line n).timeout, timerRunning := (s.line n).timeout != 0
                pulsesBefore := (s.line n).pulses }
            ∧ ((∀ g ∈ s.grant, g.live = true → g.owner ≠ .mover m) → outstanding u m = []))

/-- INVARIANT: the dispatcher is never behind. After every command its wait reason is the one that the rows of Table 3-2 and the
table of R68 give, a slot request is outstanding exactly with SPACE, and the fault record is present exactly in HALT (R57,
R59 to R65, R68, R154). The dispatcher's decision on any entry is the one of those tables. -/
def Obligations.DispatcherNeverBehind : Prop :=
  (∀ (i : Instr) (s t : State), EngineSound s → DispatcherSound s → exec i s = .next t → DispatcherSound t)
  ∧ ∀ (s : State) (e : Entry),
      (∀ o : Outcome, s.decision e = .report o ↔ reportOf s e = some o)
      ∧ (∀ r : WaitReason, s.decision e = .hold r ↔ holdOf s e = some r)

/-- INVARIANT: no two transfers in flight have conflicting footprints or one line (R67). -/
def Obligations.TransfersStayApart : Prop :=
  ∀ (i : Instr) (s t : State), EngineSound s → InFlightApart s → exec i s = .next t → InFlightApart t

/-- Entries enter the command queue at its tail, one at most in an event and unmarked, and leave it from its head in order;
marks are only set; in HALT nothing leaves but by FLUSH or a reset (R47, R48, R53, R69). -/
def Obligations.QueueKeepsOrder : Prop :=
  ∀ (i : Instr) (s t : State), i.wellFormed = true → i ≠ .flush → i ≠ .engineReset → i ≠ .fullReset →
    exec i s = .next t →
    ∃ (k : Nat) (kept new : List Entry),
      t.queue = kept ++ new
      ∧ List.Forall₂ SameOrMarked (s.queue.drop k) kept
      ∧ new.length ≤ 1
      ∧ (∀ e ∈ new, e.cancelled = false)
      ∧ ((∀ tag, i ≠ .abortTag tag) → kept = s.queue.drop k)
      ∧ (t.dispatcher.halted = true → kept.length = s.queue.length)

/-- RESUME (R157): NOT_HALTED in RUN; in HALT the dispatcher runs with an empty fault record and examines the head: it waits
with its reason, or with SPACE at a full completion queue, or is reported, or the lowest-numbered IDLE mover takes it (R57,
R59 to R63, R66, R68). -/
def Obligations.ResumeFromHalt : Prop :=
  ∀ s : State, s.inReset = false →
    (s.dispatcher.halted = false →
      exec .resume s = .next { s with controlResult := { code := .notHalted, value := 0 } })
    ∧ (s.dispatcher.halted = true →
      (∃ t, exec .resume s = .next t ∧ t.dispatcher.halted = false ∧ t.dispatcher.fault = none
        ∧ t.controlResult = { code := .ok, value := 0 }
        ∧ HostSideKept { s with controlResult := t.controlResult } t)
      ∧ (s.queue = [] →
        exec .resume s =
          .next { s with
            dispatcher := { halted := false, waitReason := .none, slotRequest := false, fault := none }
            controlResult := { code := .ok, value := 0 } })
      ∧ (∀ (e : Entry) (q : List Entry) (r : WaitReason), s.queue = e :: q → holdOf s e = some r →
        exec .resume s =
          .next { s with
            dispatcher := { halted := false, waitReason := r, slotRequest := false, fault := none }
            controlResult := { code := .ok, value := 0 } })
      ∧ (∀ (e : Entry) (q : List Entry) (o : Outcome), s.queue = e :: q → reportOf s e = some o →
        (32 ≤ s.completions.length →
          exec .resume s =
            .next { s with
              dispatcher := { halted := false, waitReason := .space, slotRequest := true, fault := none }
              controlResult := { code := .ok, value := 0 } })
        ∧ (s.completions.length < 32 →
          ∃ (u : State) (more : List Completion), exec .resume s = .next u ∧ ReportsFirst s u e o more))
      ∧ (∀ (e : Entry) (q : List Entry) (m : MoverIndex), s.queue = e :: q → reportOf s e = none → holdOf s e = none →
        LowestIdle s m →
        ∃ u, exec .resume s = .next u ∧ (u.mover m).transfer = some e
          ∧ (q = [] → PortSound s →
              u = { s.issue e m with
                dispatcher := { halted := false, waitReason := .none, slotRequest := false, fault := none }
                controlResult := { code := .ok, value := 0 } })))

/-- FLUSH (R18, R145, R159): every entry goes without a record, its references return, a running list stops, and movers,
lines, completion queue, dispatcher state and fault record stay. -/
def Obligations.FlushEmptiesQueue : Prop :=
  ∀ s : State, s.inReset = false →
    let gone := fun i : SurfaceIndex => s.queue.countP fun e => e.surfaces.contains i
    let frees := fun i : SurfaceIndex =>
      (s.surface i).state = .draining ∧ 0 < gone i ∧ (s.surface i).refcount ≤ gone i
    ∃ (table : Vector Surface 24) (freed : BitVec 24) (causes : BitVec 6),
      exec .flush s =
        .next { s with
          queue := []
          surfaces := table
          freedSet := freed
          causes := causes
          dispatcher := { s.dispatcher with waitReason := .none, slotRequest := false }
          reader :=
            if s.reader.state = .idle then s.reader
            else { s.reader with
              state := .idle, fetched := [], inHand := none, due := false, request := none
              endReason := .stopped, refusal := none, stopAddress := s.reader.current }
          grant :=
            if s.reader.state = .idle then s.grant
            else s.grant.map fun g => { g with live := g.live && g.owner != .reader }
          controlResult := { code := .ok, value := BitVec.ofNat 24 s.queue.length } }
      ∧ (∀ i : SurfaceIndex, table[i] =
          { s.surface i with
            refcount := (s.surface i).refcount - gone i
            state := if frees i then .free else (s.surface i).state })
      ∧ (∀ i : SurfaceIndex, freed.getLsbD i.val = (s.freedSet.getLsbD i.val || decide (frees i)))
      ∧ (∀ k : Cause, ({ s with causes := causes } : State).causeSet k =
          (s.causeSet k
            || (k == .lowWater && decide (16 - s.queue.length < s.lowWater))
            || (k == .list && s.reader.state != .idle)
            || (k == .freed && decide (∃ i, frees i))))

/-- FLUSH sets LOW_WATER exactly when the free slots before it were fewer than the threshold (R160). -/
def Obligations.FlushChecksLowWater : Prop :=
  ∀ s : State, s.inReset = false → WithinCapacity s → SettingsInRange s →
    ∃ t, exec .flush s = .next t ∧ t.freeSlots = 16 ∧ s.lowWater ≤ t.freeSlots
      ∧ (t.causeSet .lowWater = true ↔ s.causeSet .lowWater = true ∨ s.freeSlots < s.lowWater)
      ∧ (s.queue = [] → t.causeSet .lowWater = s.causeSet .lowWater)

/-! ### Units, beats and bursts of a transfer -/

/-- The units of a transfer tile its effective rectangle: every element is in exactly one unit, once; a segment has at most
256 bytes, a port burst has B elements and the last the rest; the units' elements add up to the effective count (R75,
R82). -/
def Obligations.UnitsTileRectangle : Prop :=
  ∀ (s : State) (e : Entry), ElementSizeLegal (s.elementBytes e) →
    (∀ f ∈ s.portSurface e, 1 ≤ f.burst.toNat) →
    (∀ p : Triple, InBox e.size p → ∃! k : Nat, k < s.unitCount e ∧ ∃ r ∈ s.unitRuns e k, InRun r p)
    ∧ (∀ k : Nat, k < s.unitCount e → 1 ≤ s.unitElements e k
        ∧ (s.portSurface e = none → s.unitElements e k * s.elementBytes e ≤ 256)
        ∧ (∀ f ∈ s.portSurface e, s.unitElements e k ≤ f.burst.toNat
            ∧ (k + 1 < s.unitCount e → s.unitElements e k = f.burst.toNat))
        ∧ ∀ r ∈ s.unitRuns e k, 1 ≤ r.length ∧ InBox e.size r.offset ∧ r.offset.x + r.length ≤ e.size.x)
    ∧ elementsBefore s e (s.unitCount e) = e.effective

/-- Units follow one another in traversal order: ascending by z, y, x, and descending the reverse (R75, R76, R82). -/
def Obligations.UnitsInTraversalOrder : Prop :=
  ∀ (s : State) (e : Entry) (k l : Nat) (p q : Triple), ElementSizeLegal (s.elementBytes e) →
    (∀ f ∈ s.portSurface e, 1 ≤ f.burst.toNat) →
    k < l → l < s.unitCount e →
    (∃ r ∈ s.unitRuns e k, InRun r p) → (∃ r ∈ s.unitRuns e l, InRun r q) →
    ((e.descending = false ∨ s.portSurface e ≠ none) → rank e.size p < rank e.size q)
    ∧ (e.descending = true → s.portSurface e = none → rank e.size q < rank e.size p)

/-- A MOVE of one surface onto itself never writes, in an earlier segment, a byte that a later segment still has to read
(R40, R41, R76). -/
def Obligations.SelfMoveReadsBeforeWrites : Prop :=
  ∀ (s : State) (c : Command) (a b : NamedSide) (k l : Nat) (p q : Triple),
    a.index = b.index → a.surface = b.surface → s.surface a.index = a.surface →
    DescriptorLegal a.surface → a.surface.shape ≠ some .port →
    let e := moveEntry c a b
    k < l → l < s.unitCount e →
    (∃ r ∈ s.unitRuns e k, InRun r q) → (∃ r ∈ s.unitRuns e l, InRun r p) →
    let read := a.surface.address ((effectiveOrigin [a, b] a).add p)
    let written := a.surface.address ((effectiveOrigin [a, b] b).add q)
    read + a.surface.elementSize.toNat ≤ written ∨ written + a.surface.elementSize.toNat ≤ read

/-- The beats over a byte range: the words from the first byte's to the last byte's in ascending order; a write changes
exactly the bytes given, a skipped byte stays; a read collects exactly the bytes of the range, in order (R77, R78, R80,
R176). -/
def Obligations.BeatsCoverByteRange : Prop :=
  ∀ (address : Nat) (cells : List (Option Byte)), cells ≠ [] → address + cells.length ≤ 2 ^ 32 →
    (coverBeats address cells).map (fun b => b.address.toNat)
      = (List.range ((address + cells.length - 1) / 4 - address / 4 + 1)).map (fun i => address / 4 * 4 + 4 * i)
    ∧ (∀ (a : Nat) (v : Byte),
        (∃ b ∈ coverBeats address cells, b.byteAt a = some v) ↔
          address ≤ a ∧ cells[a - address]? = some (some v))
    ∧ (∀ mem : Nat → Byte,
        ((readBursts address cells.length).flatMap Burst.beats).flatMap
            (fun b => laneBytes b.enables (wordAt mem b.address.toNat))
          = (List.range cells.length).map (fun i => mem (address + i)))

/-- The three forms of burst: memory runs go in incrementing bursts of 16 beats and the rest last; a port side of 4-byte
elements is one fixed burst at the base, of smaller elements one single-beat access each on the lanes of the base; no
element, no access (R77, R83, R85, R176). -/
def Obligations.BurstForms : Prop :=
  (∀ (write : Bool) (beats : List Beat),
    (incrementingBursts write beats).flatMap Burst.beats = beats
    ∧ ∀ b ∈ incrementingBursts write beats,
        b.form = .incrementing ∧ b.write = write ∧ b.length = b.beats.length ∧ 1 ≤ b.length ∧ b.length ≤ 16
        ∧ (b.beats.head?.map Beat.address = some b.start)
        ∧ (some b ≠ (incrementingBursts write beats).getLast? → b.length = 16))
  ∧ ∀ (f : Surface) (write : Bool) (elements : List (List Byte)), DescriptorLegal f →
    (portBursts f write elements).flatMap Burst.beats
      = elements.map (fun el =>
          { address := f.base
            enables :=
              if f.elementSize = 4 then 15#4
              else if f.elementSize = 2 then 3#4 <<< (f.base.toNat % 4)
              else 1#4 <<< (f.base.toNat % 4)
            bytes := el })
    ∧ (f.elementSize = 4 → elements ≠ [] →
        ∃ b, portBursts f write elements = [b] ∧ b.form = .fixed ∧ b.start = f.base ∧ b.write = write
          ∧ b.length = elements.length)
    ∧ (f.elementSize ≠ 4 → (portBursts f write elements).length = elements.length
        ∧ ∀ b ∈ portBursts f write elements, b.form = .single ∧ b.length = 1 ∧ b.write = write)

/-! ### Beats and the ends of transfers -/

/-- BEAT_ANSWERED: with beats left, the burst goes on, its owner keeps the enabled bytes of a read, and a burst whose owner
has gone gives them to nobody; at the last beat of a burst with more of its side to come, the next burst is granted where
nobody waits; with no burst in progress nothing happens (the model's reading, log 15) (R77, R88, R137, R177, R179). -/
def Obligations.BeatAnsweredAdvancesBurst : Prop :=
  ∀ (s : State) (data : Word), s.inReset = false →
    (s.grant = none → exec (.beatAnswered data) s = .next s)
    ∧ ∀ (g : Grant) (b : Beat) (rest : List Beat), s.grant = some g → g.burst.beats = b :: rest →
      let left : Grant := { g with burst := { g.burst with beats := rest } }
      (rest ≠ [] → g.live = true → g.burst.write = false → ∀ m, g.owner = .mover m →
        exec (.beatAnswered data) s =
          .next { s.setMover m { s.mover m with buffer := (s.mover m).buffer ++ laneBytes b.enables data } with
            grant := some left })
      ∧ (rest ≠ [] → g.live = true → g.burst.write = false → g.owner = .reader →
        exec (.beatAnswered data) s =
          .next { s with
            reader := { s.reader with fetched := s.reader.fetched ++ [data] }
            grant := some left })
      ∧ (rest ≠ [] → (g.live = false ∨ g.burst.write = true) →
        exec (.beatAnswered data) s = .next { s with grant := some left })
      ∧ (rest = [] → g.live = false → (∀ r, s.waiting r = none) →
        exec (.beatAnswered data) s = .next { s with grant := none })
      ∧ (rest = [] → g.live = true → (∀ r, s.waiting r = none) →
        ∀ (m : MoverIndex) (next : Burst) (later : List Burst), g.owner = .mover m → .mover m ∈ s.rotation →
          (s.mover m).bursts = next :: later →
          exec (.beatAnswered data) s =
            .next { s.setMover m { s.mover m with
                buffer :=
                  if g.burst.write then (s.mover m).buffer else (s.mover m).buffer ++ laneBytes b.enables data
                bursts := later } with
              grant := some { owner := .mover m, live := true, burst := next }
              rotation := s.rotation.erase (.mover m) ++ [.mover m] })

/-- The boundary of a unit, at the last beat of its write side, or of its read side where every element is left out of a port:
the counts advance by the whole unit; the transfer ends DONE at its last unit, else ABORTED with the stop request set,
else SHORT with the end-seen latch set; else an unpaced transfer starts its next unit, and a paced one reports its burst end
to its line, which goes on by the four rows of R103. An end posts its record and returns the references, or at a full
completion queue leaves the mover in POST (R17, R81, R85, R86, R87, R92, R93, R94, R103, R105, R121, R122; the count of
pulses is the model's, log 28). -/
def Obligations.BoundaryDecidesOutcome : Prop :=
  ∀ (s : State) (data : Word) (g : Grant) (b : Beat) (m : MoverIndex) (t : Entry) (k : Nat), QuietEnd s m →
    s.grant = some g → g.live = true → g.owner = .mover m → g.burst.beats = [b] →
    (s.mover m).transfer = some t → (s.mover m).bursts = [] → EndsUnit s m t g.burst.write b data k →
    let position := (s.mover m).position
    let n := s.unitElements t position
    let moved := (s.mover m).moved + (n - k)
    let skipped := (s.mover m).skipped + k
    let last := s.unitCount t ≤ position + 1
    let stopped := (s.mover m).stop = true
    let ended := ∃ l ∈ t.line, (s.line l).endSeen = true
    (last → ∃ u, exec (.beatAnswered data) s = .next u ∧ Ends s u m t .done moved skipped none)
    ∧ (¬ last → stopped → ∃ u, exec (.beatAnswered data) s = .next u ∧ Ends s u m t .aborted moved skipped none)
    ∧ (¬ last → ¬ stopped → ended →
        ∃ u, exec (.beatAnswered data) s = .next u ∧ Ends s u m t .short moved skipped none)
    ∧ (¬ last → ¬ stopped → ¬ ended →
        ∃ u, exec (.beatAnswered data) s = .next u
          ∧ (u.mover m).position = position + 1 ∧ (u.mover m).moved = moved
          ∧ (u.mover m).skipped = skipped ∧ (u.mover m).transfer = some t
          ∧ u.completions = s.completions ∧ u.queue = s.queue ∧ u.surfaces = s.surfaces
          ∧ (∀ l : LineIndex, t.line ≠ some l → u.line l = s.line l)
          ∧ (t.line = none →
              (u.mover m).state = (s.mover m).state
              ∧ (u.mover m).side = (if t.kind = .fill then .write else .read)
              ∧ ((s.mover m).request = none → outstanding u m = startPlan s t (position + 1)))
          ∧ (∀ l ∈ t.line, (s.line l).latchedMode = .demand → (s.line l).request = true →
              (u.mover m).state = .run
              ∧ u.line l = { s.line l with
                  state := .burst, timerRunning := false, timerCount := (s.line l).latchedTimeout
                  pulses := (s.line l).pulses + 1 }
              ∧ ((s.mover m).request = none → outstanding u m = startPlan s t (position + 1)))
          ∧ (∀ l ∈ t.line, ¬ ((s.line l).latchedMode = .demand ∧ (s.line l).request = true) →
              (u.mover m).state = .pace
              ∧ u.line l = { s.line l with
                  state := if (s.line l).request = true then .waitLow else .wait
                  timerCount := (s.line l).latchedTimeout, timerRunning := (s.line l).latchedTimeout != 0 }
              ∧ ((s.mover m).request = none → outstanding u m = []))
          ∧ HostSideKept s u)

/-- BEAT_ERROR with no burst in progress changes nothing (the model's reading, log 15), and on a burst whose requester has gone
it changes the port alone (R143, R163, R178, R179). On a mover's burst the transfer ends FAULTED with the address and side
of the failing beat and the counts of its completed units; in RUN the dispatcher captures the fault, halts and raises HALT,
in HALT it keeps its first fault (R90, R112, R154, R156). On a fetch the list ends FAULTED and nothing else hears of it
(R142). -/
def Obligations.BeatErrorFaults : Prop :=
  (∀ s : State, s.grant = none → exec .beatError s = .next s)
  ∧ (∀ (s : State) (g : Grant) (b : Beat) (rest : List Beat), s.inReset = false → s.grant = some g → g.live = false →
    g.burst.beats = b :: rest →
    ((∀ r, s.waiting r = none) → exec .beatError s = .next { s with grant := none })
    ∧ ∀ (r : Requester) (next : Burst) (before after : List Requester), s.rotation = before ++ r :: after →
        (∀ k ∈ before, s.waiting k = none) → s.waiting r = some next →
        exec .beatError s =
          .next { s.setWaiting r none with
            grant := some { owner := r, live := true, burst := next }
            rotation := s.rotation.erase r ++ [r] })
  ∧ ∀ (s : State) (g : Grant) (b : Beat) (rest : List Beat), s.inReset = false → s.grant = some g → g.live = true →
    g.burst.beats = b :: rest →
    (∀ (m : MoverIndex) (t : Entry), g.owner = .mover m → (s.mover m).transfer = some t →
      let item : FaultItem := { address := b.address, side := if g.burst.write then .write else .read }
      (s.completions.length < 32 → ∀ k : MoverIndex, k ≠ m → (s.mover k).state ≠ .post) →
      ∃ u, exec .beatError s = .next u
        ∧ Ends s u m t .faulted (s.mover m).moved (s.mover m).skipped (some item)
        ∧ (s.dispatcher.halted = false →
            u.dispatcher = {
              halted := true, waitReason := .none, slotRequest := false
              fault := some { mover := m, tag := t.tag, kind := t.kind, item := item } }
            ∧ u.causeSet .halt = true)
        ∧ (s.dispatcher.halted = true → u.dispatcher = s.dispatcher ∧ u.causeSet .halt = s.causeSet .halt))
    ∧ (g.owner = .reader → (∀ r, s.waiting r = none) →
        exec .beatError s =
          .next { s with
            grant := none
            reader := { s.reader with
              state := .idle, fetched := [], inHand := none, due := false, request := none
              endReason := .faulted, refusal := none, stopAddress := s.reader.current }
            causes := s.causes ||| Cause.list.mask })

/-- ABORT_TAG: the two counts; nothing found, nothing changed; the entries are marked and a mover in RUN takes the stop request,
in HALT and in RUN; in RUN the head is examined in the same event: held with its reason, waiting for a slot at a full
completion queue, or reported, a marked one ABORTED; a mover in PACE posts ABORTED in the same event (R57, R59 to R62, R68,
R69, R89, R111, R149 to R151). -/
def Obligations.AbortTagReachesAll : Prop :=
  ∀ (s : State) (tag : Tag), s.inReset = false →
    let carries := fun e : Entry => decide (e.tag = tag)
    let hit := fun m : MoverIndex =>
      ((s.mover m).state == .run || (s.mover m).state == .pace) && (s.mover m).transfer.any carries
    let marked := s.queue.countP carries
    let stopped := (hit 0).toNat + (hit 1).toNat
    let after : State := { s with
      queue := s.queue.map fun e => if e.tag = tag then { e with cancelled := true } else e
      controlResult := { code := .ok, value := BitVec.ofNat 24 (marked + 256 * stopped) } }
    let stops : Vector Mover 2 :=
      Vector.ofFn fun m => if hit m then { s.mover m with stop := true } else s.mover m
    (∃ t, exec (.abortTag tag) s = .next t ∧ t.controlResult = after.controlResult)
    ∧ (marked = 0 → stopped = 0 →
        exec (.abortTag tag) s = .next { s with controlResult := { code := .ok, value := 0 } })
    ∧ (s.dispatcher.halted = true → PostersServed s →
        (∀ m : MoverIndex, hit m = true → (s.mover m).state = .run) →
        exec (.abortTag tag) s = .next { after with movers := stops })
    ∧ (s.dispatcher.halted = false → PostersServed s → 0 < marked + stopped →
        (∀ m : MoverIndex, hit m = true → (s.mover m).state = .run) →
        let waits := fun (r : WaitReason) (slot : Bool) =>
          exec (.abortTag tag) s =
            .next { after with
              movers := stops
              dispatcher := { s.dispatcher with waitReason := r, slotRequest := slot } }
        (s.queue = [] → waits .none false)
        ∧ ∀ (e : Entry) (q : List Entry), s.queue = e :: q →
            let head := if e.tag = tag then { e with cancelled := true } else e
            (∀ r : WaitReason, holdOf s head = some r → waits r false)
            ∧ (∀ o : Outcome, reportOf s head = some o →
                (32 ≤ s.completions.length → waits .space true)
                ∧ (s.completions.length < 32 →
                    ∃ (u : State) (more : List Completion), exec (.abortTag tag) s = .next u
                      ∧ ReportsFirst s u e o more ∧ HostSideKept after u
                      ∧ (q = [] →
                          more = [] ∧ u.queue = [] ∧ u.movers = stops ∧ u.lines = s.lines ∧ u.sequence = s.sequence + 1
                          ∧ u.dispatcher = { s.dispatcher with waitReason := .none, slotRequest := false }
                          ∧ ReturnsRefs s u e.surfaces))))
    ∧ (∀ (m : MoverIndex) (t : Entry), QuietEnd s m → (s.mover m).state = .pace → (s.mover m).transfer = some t →
        t.tag = tag → (∀ k : MoverIndex, k ≠ m → hit k = false) →
        ∃ u, exec (.abortTag tag) s = .next u
          ∧ Ends after u m t .aborted (s.mover m).moved (s.mover m).skipped none)

/-- INVARIANT: every transfer's counts are those of its completed units, at most its effective count, and the whole of it
exactly when it ends DONE; with the clipped count they make the requested count; for a paced transfer they are those that its
PACKn pulses, its outcome and B give (R30, R81, R86, R90, R92, R118, R183; the count of pulses is the model's, log 28). -/
def Obligations.CountsStaySound : Prop :=
  ∀ (i : Instr) (s t : State), SurfacesLegal s → LifeCycleSound s → EngineSound s → CountsSound s →
    exec i s = .next t → CountsSound t

/-- INVARIANT: movers, pacing lines, master port and list reader agree with one another after every command (R73, R88, R97,
R101, R113, R133, R178). -/
def Obligations.EngineStaysSound : Prop :=
  ∀ (i : Instr) (s t : State), EngineSound s → exec i s = .next t → EngineSound t

/-! ### Paced ports -/

/-- PREQ_ACTIVE and PREQ_INACTIVE (R98, R102, R104): a line in WAIT admits a burst, its timer stopped and PACKn active
with a new pulse (the count is the model's, log 28); a line in WAIT_LOW passes to WAIT, its timer not reloaded; elsewhere
only the level on the input changes. -/
def Obligations.RequestLevelsAtLine : Prop :=
  ∀ (s : State) (n : LineIndex), s.inReset = false →
    ((s.line n).state ≠ .wait →
      exec (.preqActive n) s = .next (s.setLine n { s.line n with request := true }))
    ∧ (∀ (m : MoverIndex) (t : Entry), (s.line n).state = .wait → (s.line n).bound = some m →
        (s.mover m).transfer = some t →
        ∃ u, exec (.preqActive n) s = .next u
          ∧ u.line n = { s.line n with
              request := true, state := .burst, timerRunning := false, pulses := (s.line n).pulses + 1 }
          ∧ (outstanding s m = [] → outstanding u m = startPlan s t (s.mover m).position)
          ∧ u.packActive n = true ∧ (∀ k : LineIndex, k ≠ n → u.line k = s.line k)
          ∧ (u.mover m).state = .run ∧ (u.mover m).transfer = some t
          ∧ (u.mover m).position = (s.mover m).position ∧ (u.mover m).moved = (s.mover m).moved
          ∧ (u.mover m).skipped = (s.mover m).skipped ∧ (u.mover m).buffer = []
          ∧ (∀ k : MoverIndex, k ≠ m → u.mover k = s.mover k)
          ∧ u.queue = s.queue ∧ u.completions = s.completions ∧ u.surfaces = s.surfaces
          ∧ u.dispatcher = s.dispatcher ∧ u.causes = s.causes ∧ u.reader = s.reader ∧ HostSideKept s u)
    ∧ exec (.preqInactive n) s =
        .next (s.setLine n { s.line n with
          request := false
          state := if (s.line n).state = .waitLow then .wait else (s.line n).state })

/-- A burst end after which the transfer continues: the four rows of R103, the timer loaded with the latched timeout, and one
more PACKn pulse where the same event admits the next burst (R98, R103, R106, R107; the count is the model's, log 28). -/
def Obligations.BurstEndByMode : Prop :=
  ∀ (s : State) (n : LineIndex) (m : MoverIndex),
    ((s.line n).latchedMode = .demand → (s.line n).request = true →
      ((s.burstContinues n m).line n) =
        { s.line n with
          state := .burst, timerRunning := false, timerCount := (s.line n).latchedTimeout
          pulses := (s.line n).pulses + 1 }
      ∧ ((s.burstContinues n m).mover m).state = .run)
    ∧ (¬ ((s.line n).latchedMode = .demand ∧ (s.line n).request = true) →
      s.burstContinues n m =
        (s.setLine n { s.line n with
          state := if (s.line n).request = true then .waitLow else .wait
          timerCount := (s.line n).latchedTimeout
          timerRunning := (s.line n).latchedTimeout != 0 }).setMover m { s.mover m with state := .pace })

/-- PEND_FALL, TIMER_EXPIRY and TICK (R99, R107, R109): in IDLE an edge does nothing, in BURST it sets the end-seen latch, in
WAIT and WAIT_LOW the transfer ends SHORT; a timer that has run to 0 ends it TIMEOUT; a tick takes one from every running
timer. That an expiry not due does nothing, and how tick and expiry share the work, is the model's reading (log 5, log 15). -/
def Obligations.LineTimersAndEnds : Prop :=
  ∀ (s : State) (n : LineIndex), s.inReset = false →
    ((s.line n).state = .idle → exec (.pendFall n) s = .next s)
    ∧ ((s.line n).state = .burst → exec (.pendFall n) s = .next (s.setLine n { s.line n with endSeen := true }))
    ∧ (∀ (m : MoverIndex) (t : Entry), QuietEnd s m → (s.line n).state = .wait ∨ (s.line n).state = .waitLow →
        (s.line n).bound = some m → (s.mover m).transfer = some t → t.line = some n →
        (∃ u, exec (.pendFall n) s = .next u
          ∧ Ends s u m t .short (s.mover m).moved (s.mover m).skipped none)
        ∧ ((s.line n).timerRunning = true → (s.line n).timerCount = 0 →
          ∃ u, exec (.timerExpiry n) s = .next u
            ∧ Ends s u m t .timeout (s.mover m).moved (s.mover m).skipped none))
    ∧ ((s.line n).timerRunning = false ∨ (s.line n).timerCount ≠ 0 → exec (.timerExpiry n) s = .next s)
    ∧ (s.divider ≠ none →
        exec .tick s =
          .next { s with
            divider := some s.timeBase
            lines := Vector.ofFn fun k =>
              { s.line k with
                timerCount :=
                  if (s.line k).timerRunning = true ∧ (s.line k).timerCount ≠ 0 then (s.line k).timerCount - 1
                  else (s.line k).timerCount } })

/-! ### The completion queue and the causes -/

/-- COMPLETION_POP: the head goes; a pop with no poster waiting, in HALT or in RUN, leaves a free slot; a pop of a full queue
gives its slot to mover 0, else mover 1, else the dispatcher; on an empty queue BAD_ACCESS is set (R122, R125). -/
def Obligations.PopServesPosters : Prop :=
  ∀ s : State, s.inReset = false →
    (s.completions = [] → exec .completionPop s = .next { s with badAccess := true })
    ∧ ∀ (r : Completion) (rest : List Completion), s.completions = r :: rest →
      (s.completions.length < 32 → exec .completionPop s = .next { s with completions := rest })
      ∧ (s.completions.length = 32 → (s.mover 0).state ≠ .post → (s.mover 1).state ≠ .post →
          s.dispatcher.halted = true → exec .completionPop s = .next { s with completions := rest })
      ∧ (s.completions.length = 32 → (s.mover 0).state ≠ .post → (s.mover 1).state ≠ .post →
          s.dispatcher.halted = false → s.dispatcher.slotRequest = false →
          ((s.queue = [] ∧ s.dispatcher.waitReason = .none)
            ∨ ∃ (e : Entry) (q : List Entry), s.queue = e :: q ∧ holdOf s e = some s.dispatcher.waitReason) →
          exec .completionPop s = .next { s with completions := rest })
      ∧ (∀ (m : MoverIndex) (t : Entry) (o : Outcome), s.completions.length = 32 → (s.mover m).state = .post →
          (s.mover m).transfer = some t → (s.mover m).outcome = some o → (m = 1 → (s.mover 0).state ≠ .post) →
          ∃ u, exec .completionPop s = .next u
            ∧ u.completions = rest ++
                [{ tag := t.tag, kind := t.kind, outcome := o, mover := some m, signal := t.signal,
                   sequence := s.sequence, moved := (s.mover m).moved, skipped := (s.mover m).skipped,
                   clipped := t.clipped, fault := (s.mover m).fault }]
            ∧ u.sequence = s.sequence + 1 ∧ HostSideKept s u)
      ∧ (∀ (e : Entry) (q : List Entry) (o : Outcome), s.completions.length = 32 → (s.mover 0).state ≠ .post →
          (s.mover 1).state ≠ .post → s.dispatcher.halted = false → s.queue = e :: q → reportOf s e = some o →
          ∃ u, exec .completionPop s = .next u
            ∧ u.completions = rest ++
                [{ tag := e.tag, kind := e.kind, outcome := o, mover := none, signal := e.signal,
                   sequence := s.sequence, moved := 0, skipped := 0, clipped := e.clipped, fault := none }]
            ∧ u.sequence = s.sequence + 1 ∧ HostSideKept s u)

/-- Records enter the completion queue at its tail with consecutive sequence numbers, never change there, and leave it only
from its head by a pop, but for the resets, which empty it (R117, R119, R120, R125). -/
def Obligations.CompletionQueueKeepsOrder : Prop :=
  ∀ (i : Instr) (s t : State), i.wellFormed = true → exec i s = .next t →
    (i = .engineReset ∨ i = .fullReset → s.inReset = false → t.completions = [] ∧ t.sequence = 0)
    ∧ (i ≠ .engineReset → i ≠ .fullReset →
        ∃ new : List Completion,
          t.completions = (if i = .completionPop ∧ s.inReset = false then s.completions.tail else s.completions) ++ new
          ∧ t.sequence = s.sequence + BitVec.ofNat 16 new.length
          ∧ new.map Completion.sequence
              = (List.range new.length).map (fun j => s.sequence + BitVec.ofNat 16 j))

/-- Every accepted command is reported by exactly one record: no command but FLUSH and the resets loses or doubles one
between its acceptance and the pop of its record (R24, R27, R34, R48, R66, R92, R121). -/
def Obligations.EveryCommandReportedOnce : Prop :=
  ∀ (i : Instr) (s t : State), i.wellFormed = true → i ≠ .flush → i ≠ .engineReset → i ≠ .fullReset →
    (∀ m : MoverIndex, (s.mover m).state = .idle → (s.mover m).transfer = none) →
    exec i s = .next t →
    ∃ accepted popped : List Ticket,
      (tickets s ++ accepted).Perm (tickets t ++ popped)
      ∧ accepted.length ≤ 1 ∧ popped.length ≤ 1
      ∧ (popped ≠ [] → i = .completionPop)
      ∧ (accepted ≠ [] → i = .post ∨ i = .waitSpacePresentation ∨ ∃ data, i = .beatAnswered data)

/-- INT_CAUSE (R126): an event sets its flag whatever the enables and leaves the others; a write clears the flags written
as 1; a read gives the flags with the other bits 0; nothing but that write and the resets clears a flag. -/
def Obligations.CausesClearedByHostAlone : Prop :=
  (∀ (s : State) (c k : Cause), (s.raise c).causeSet k = (s.causeSet k || k == c)
      ∧ (s.raise c).enables = s.enables)
  ∧ (∀ (s : State) (value : Word), s.inReset = false →
      ∃ causes : BitVec 6, exec (.intCauseWrite value) s = .next { s with causes := causes }
        ∧ ∀ k : Cause, ({ s with causes := causes } : State).causeSet k = (s.causeSet k && !value.getLsbD k.bit))
  ∧ (∀ s : State, s.readRegister 0x04 = s.causes.setWidth 32)
  ∧ (∀ (i : Instr) (s t : State) (k : Cause), i.wellFormed = true → (∀ value, i ≠ .intCauseWrite value) →
      i ≠ .engineReset → i ≠ .fullReset → exec i s = .next t → s.causeSet k = true → t.causeSet k = true)

/-- INT_ENABLE and INTn (R127): the write keeps six enables and no flag changes; INTn is active exactly while a set cause is
enabled and RESETn is not low. -/
def Obligations.InterruptFollowsEnables : Prop :=
  (∀ s : State, s.intActive = true ↔ s.inReset = false ∧ ∃ k : Cause, s.causeSet k = true ∧ s.enables.getLsbD k.bit = true)
  ∧ ∀ (s : State) (value : Word), s.inReset = false →
      ∃ t, exec (.intEnableWrite value) s = .next t
        ∧ t = { s with enables := t.enables }
        ∧ (∀ k : Cause, t.enables.getLsbD k.bit = value.getLsbD k.bit)
        ∧ t.readRegister 0x05 = value &&& 0x3F
        ∧ (t.intActive = true ↔ ∃ k : Cause, s.causeSet k = true ∧ value.getLsbD k.bit = true)

/-- The HALT cause (R155): set exactly in the event in which the dispatcher passes from RUN to HALT; cleared by the host's
write of 1 and by engine reset, not by RESUME or FLUSH. -/
def Obligations.HaltCauseOnEntryToHalt : Prop :=
  (∀ (i : Instr) (s t : State), i.wellFormed = true → (∀ value, i ≠ .intCauseWrite value) → i ≠ .engineReset →
      i ≠ .fullReset → exec i s = .next t →
      t.causeSet .halt = (s.causeSet .halt || (!s.dispatcher.halted && t.dispatcher.halted)))
  ∧ (∀ (s t : State) (value : Word), s.inReset = false → value.getLsbD 3 = true →
      exec (.intCauseWrite value) s = .next t → t.causeSet .halt = false)
  ∧ (∀ s t : State, s.inReset = false → exec .engineReset s = .next t → t.causeSet .halt = false)
  ∧ (∀ s t : State, exec .resume s = .next t ∨ exec .flush s = .next t → s.causeSet .halt = true →
      t.causeSet .halt = true)

/-- INVARIANTS: the queues stay within 16 entries and 32 records, sequence numbers stay consecutive, kept settings stay in
range, posters wait only for a full completion queue, and a reader waits for space only at a full command queue (R47,
R54, R99, R119, R120, R122, R128, R139). -/
def Obligations.QueuesStayBounded : Prop :=
  ∀ (i : Instr) (s t : State), exec i s = .next t →
    (WithinCapacity s → WithinCapacity t)
    ∧ (SequenceConsecutive s → SequenceConsecutive t)
    ∧ (SettingsInRange s → SettingsInRange t)
    ∧ (EngineSound s → DispatcherSound s → WithinCapacity s → PostersServed s → PostersServed t)
    ∧ (WithinCapacity s → WaitSpaceFull s → WaitSpaceFull t)

/-- Every invariant holds of the device right after a full reset (State.reset, log 1). -/
def Obligations.ResetMeetsInvariants : Prop :=
  Sound State.reset

/-! ### Command lists -/

/-- LIST_START (R136, R137): BUSY, BAD_ADDRESS, or the list starts with the request of its first fetch of 8 beats, granted at
once at a free port. -/
def Obligations.ListStartByState : Prop :=
  ∀ s : State, s.inReset = false →
    let fetch : Burst := {
      form := .incrementing, write := false, start := s.listAddress, length := 8
      beats := (List.range 8).map fun i =>
        { address := s.listAddress + BitVec.ofNat 32 (4 * i), enables := 15#4, bytes := [] } }
    let started : State := { s with
      reader := { s.reader with
        state := .fetch, current := s.listAddress, fetched := [], inHand := none, due := false
        count := 0, endReason := .none, refusal := none, stopAddress := 0 }
      controlResult := { code := .ok, value := 0 } }
    (s.reader.state ≠ .idle →
      exec .listStart s =
        .next { s with controlResult := { code := .busy, value := BitVec.ofNat 24 s.reader.count.toNat } })
    ∧ (s.reader.state = .idle → s.listAddress.toNat % 32 ≠ 0 →
      exec .listStart s = .next { s with controlResult := { code := .badAddress, value := 0 } })
    ∧ (s.reader.state = .idle → s.listAddress.toNat % 32 = 0 → s.grant = none →
      exec .listStart s =
        .next { started with
          grant := some { owner := .reader, live := true, burst := fetch }
          rotation := s.rotation.erase .reader ++ [.reader] })
    ∧ (s.reader.state = .idle → s.listAddress.toNat % 32 = 0 → s.grant ≠ none →
      exec .listStart s = .next { started with reader := { started.reader with request := some fetch } })

/-- LIST_STOP (R143, R146): NOT_RUNNING, or the list ends STOPPED at its current address with LIST raised: a waiting request
is withdrawn, a burst in progress goes on without the reader, a record in hand is dropped. -/
def Obligations.ListStopByState : Prop :=
  ∀ s : State, s.inReset = false →
    (s.reader.state = .idle →
      exec .listStop s = .next { s with controlResult := { code := .notRunning, value := 0 } })
    ∧ (s.reader.state ≠ .idle →
      exec .listStop s =
        .next { s with
          reader := { s.reader with
            state := .idle, fetched := [], inHand := none, due := false, request := none
            endReason := .stopped, refusal := none, stopAddress := s.reader.current }
          causes := s.causes ||| Cause.list.mask
          grant := s.grant.map fun g => { g with live := g.live && g.owner != .reader }
          controlResult := { code := .ok, value := BitVec.ofNat 24 s.reader.count.toNat } })

/-- The last beat of a fetch presents the record in the same event: refused FULL it is held in WAIT_SPACE, refused otherwise
the list ends REJECTED, accepted it enters the queue and the list ends ENDED or goes on to the next address (R51, R137 to
R140). -/
def Obligations.FetchedRecordIsPresented : Prop :=
  ∀ (s : State) (data : Word) (g : Grant) (b : Beat), s.inReset = false →
    s.grant = some g → g.live = true → g.owner = .reader → g.burst.write = false → g.burst.beats = [b] →
    s.reader.fetched.length = 7 → (∀ r, s.waiting r = none) → .reader ∈ s.rotation →
    let words := s.reader.fetched ++ [data]
    let c := decodeCommand words
    let next : Word := data &&& 0xFFFFFFE0
    (acceptanceRefusal s c = some .full →
      ∃ record : Vector Word 8, record.toList = words ∧
        exec (.beatAnswered data) s =
          .next { s with
            grant := none
            reader := { s.reader with state := .waitSpace, fetched := [], inHand := some record, due := false } })
    ∧ (∀ r : Reason, acceptanceRefusal s c = some r → r ≠ .full →
      exec (.beatAnswered data) s =
        .next { s with
          grant := none
          causes := s.causes ||| Cause.list.mask
          reader := { s.reader with
            state := .idle, fetched := [], inHand := none, due := false
            endReason := .rejected, refusal := some r, stopAddress := s.reader.current } })
    ∧ (acceptanceRefusal s c = none →
      ∃ (e : Entry) (t : State), EntryOf s c e ∧ exec (.beatAnswered data) s = .next t ∧ HeldOrReported t e
        ∧ t.reader.count = s.reader.count + 1 ∧ t.reader.inHand = none ∧ t.reader.due = false
        ∧ (data.getLsbD 0 = true →
            t.reader.state = .idle ∧ t.reader.endReason = .ended ∧ t.reader.stopAddress = s.reader.current
            ∧ t.causeSet .list = true)
        ∧ (data.getLsbD 0 = false → t.reader.state = .fetch ∧ t.reader.current = next)
        ∧ HostSideKept s t)
    ∧ (acceptanceRefusal s c = none → (s.queue ≠ [] ∨ s.dispatcher.halted = true) →
      ∃ (e : Entry) (table : Vector Surface 24), EntryOf s c e ∧ Referenced s { s with surfaces := table } c
        ∧ exec (.beatAnswered data) s =
          .next (
            if data.getLsbD 0 = true then
              { s with
                queue := s.queue ++ [e]
                surfaces := table
                grant := none
                causes := s.causes ||| Cause.list.mask
                reader := { s.reader with
                  state := .idle, fetched := [], inHand := none, due := false, count := s.reader.count + 1
                  endReason := .ended, refusal := none, stopAddress := s.reader.current } }
            else
              { s with
                queue := s.queue ++ [e]
                surfaces := table
                rotation := s.rotation.erase .reader ++ [.reader]
                grant := some {
                  owner := .reader
                  live := true
                  burst := {
                    form := .incrementing, write := false, start := next, length := 8
                    beats := (List.range 8).map fun i =>
                      { address := next + BitVec.ofNat 32 (4 * i), enables := 15#4, bytes := [] } } }
                reader := { s.reader with
                  state := .fetch, current := next, fetched := [], inHand := none, due := false
                  count := s.reader.count + 1 } }))

/-- WAIT_SPACE_PRESENTATION: after a removal a reader in WAIT_SPACE presents its record afresh, and the outcome is taken as
at a fetch; without a removal, out of WAIT_SPACE or in HALT there is no presentation (the flag for a removal is the model's
reading, log 11) (R51, R69, R139, R140). -/
def Obligations.HeldRecordPresentedAfterRemoval : Prop :=
  ∀ s : State, s.inReset = false →
    (s.reader.state ≠ .waitSpace ∨ s.reader.due = false ∨ s.dispatcher.halted = true →
      exec .waitSpacePresentation s = .next s)
    ∧ ∀ record : Vector Word 8, s.reader.state = .waitSpace → s.reader.due = true → s.dispatcher.halted = false →
        s.reader.inHand = some record →
        let c := decodeCommand record.toList
        (acceptanceRefusal s c = some .full →
          exec .waitSpacePresentation s =
            .next { s with reader := { s.reader with fetched := [], due := false } })
        ∧ (∀ r : Reason, acceptanceRefusal s c = some r → r ≠ .full →
          exec .waitSpacePresentation s =
            .next { s with
              causes := s.causes ||| Cause.list.mask
              reader := { s.reader with
                state := .idle, fetched := [], inHand := none, due := false, request := none
                endReason := .rejected, refusal := some r, stopAddress := s.reader.current } })
        ∧ (acceptanceRefusal s c = none →
          ∃ (e : Entry) (t : State), EntryOf s c e
            ∧ exec .waitSpacePresentation s = .next t ∧ HeldOrReported t e
            ∧ t.reader.count = s.reader.count + 1 ∧ t.reader.inHand = none ∧ t.reader.due = false
            ∧ (record[7].getLsbD 0 = true →
                t.reader.state = .idle ∧ t.reader.endReason = .ended ∧ t.reader.stopAddress = s.reader.current
                ∧ t.causeSet .list = true)
            ∧ (record[7].getLsbD 0 = false →
                t.reader.state = .fetch ∧ t.reader.current = record[7] &&& 0xFFFFFFE0)
            ∧ HostSideKept s t
            ∧ (s.queue ≠ [] → PortSound s →
                t.queue = s.queue ++ [e] ∧ Referenced s t c ∧ t.movers = s.movers ∧ t.lines = s.lines
                ∧ t.completions = s.completions ∧ t.dispatcher = s.dispatcher
                ∧ (record[7].getLsbD 0 = true → t.causes = s.causes ||| Cause.list.mask ∧ t.grant = s.grant)
                ∧ (record[7].getLsbD 0 = false → t.causes = s.causes)))

/-! ### The register window, the arbiter and engine reset -/

/-- The writes that touch one register: UNKNOWN_COMMAND, NON_WORD_ACCESS, STATUS_WRITE, FREED_SET_WRITE, TIME_BASE_WRITE
(R19, R99, R166, R167). -/
def Obligations.SingleRegisterWrites : Prop :=
  ∀ s : State, s.inReset = false →
    (∀ (code : BitVec 4) (operand : BitVec 8), unknownCode code = true →
      exec (.unknownCommand code operand) s = .next { s with controlResult := { code := .unknown, value := 0 } })
    ∧ (∀ (access : Access) (offset : Offset) (enables : BitVec 4), enables ≠ 15 →
      exec (.nonWordAccess access offset enables) s = .next { s with badAccess := true })
    ∧ (∀ value : Word,
      exec (.statusWrite value) s = .next { s with badAccess := s.badAccess && !value.getLsbD 31 })
    ∧ (∀ value : Word, ∃ freed : BitVec 24,
      exec (.freedSetWrite value) s = .next { s with freedSet := freed }
      ∧ ∀ i : SurfaceIndex, freed.getLsbD i.val = (s.freedSet.getLsbD i.val && !value.getLsbD i.val))
    ∧ (∀ value : Word, ∃ n : Nat,
      exec (.timeBaseWrite value) s = .next { s with timeBase := n, divider := some n }
      ∧ (value = 0 → n = 1) ∧ (65536 < value.toNat → n = 65536)
      ∧ (1 ≤ value.toNat → value.toNat ≤ 65536 → n = value.toNat))

/-- REGISTER_WRITE (R8, R21, R25, R54, R100, R128, R135, R165): each plain register keeps what its rule keeps of the word;
read-only and unnamed offsets ignore it. -/
def Obligations.PlainRegisterWrites : Prop :=
  ∀ (s : State) (value : Word), s.inReset = false →
    let kept := fun (most v : Nat) => if v = 0 then 1 else if most < v then most else v
    (∀ k : Fin 7,
      exec (.registerWrite (BitVec.ofNat 6 (0x08 + k.val)) value) s =
        .next { s with commandStaging := s.commandStaging.set k value }
      ∧ exec (.registerWrite (BitVec.ofNat 6 (0x18 + k.val)) value) s =
        .next { s with surfaceStaging := s.surfaceStaging.set k value })
    ∧ exec (.registerWrite 0x1F value) s = .next { s with surfaceSelect := value.setWidth 5 }
    ∧ exec (.registerWrite 0x12 value) s = .next { s with listAddress := value }
    ∧ exec (.registerWrite 0x06 value) s =
        .next { s with
          completionThreshold := kept 32 (value.toNat % 256)
          lowWater := kept 16 (value.toNat / 256 % 256) }
    ∧ (∀ n : LineIndex,
      exec (.registerWrite (BitVec.ofNat 6 (0x32 + n.val)) value) s =
        .next (s.setLine n { s.line n with
          mode := if value.getLsbD 16 then .demand else .step
          timeout := value.setWidth 16 }))
    ∧ (∀ offset : Offset, hasOwnRow offset = false → offset.toNat ≠ 0x06 → offset.toNat ≠ 0x12 →
        ¬ (0x08 ≤ offset.toNat ∧ offset.toNat ≤ 0x0E) → ¬ (0x18 ≤ offset.toNat ∧ offset.toNat ≤ 0x1F) →
        ¬ (0x32 ≤ offset.toNat ∧ offset.toNat ≤ 0x35) →
        exec (.registerWrite offset value) s = .next s)

/-- What the host wrote it reads back, and what the device shows it reads: every readable register but ID, INT_CAUSE and
INT_ENABLE, field by field; what a write-only or unnamed offset reads; and what a read access returns by its byte enables
(R8, R21, R25, R54, R99, R100, R114, R124, R128, R134, R135, R153, R165, R166, R168, R169, R173 to R175). -/
def Obligations.ReadsShowState : Prop :=
  ∀ s : State, WithinCapacity s →
    (∀ k : Fin 7, s.readRegister (BitVec.ofNat 6 (0x08 + k.val)) = s.commandStaging[k]
      ∧ s.readRegister (BitVec.ofNat 6 (0x18 + k.val)) = s.surfaceStaging[k])
    ∧ s.readRegister 0x1F = s.surfaceSelect.setWidth 32
    ∧ s.readRegister 0x12 = s.listAddress
    ∧ (let w := s.readRegister 0x03
       (w.extractLsb' 0 8).toNat = s.queue.length ∧ (w.extractLsb' 8 8).toNat = s.completions.length
       ∧ (w.extractLsb' 16 3).toNat = s.dispatcher.waitReason.code ∧ w.getLsbD 19 = s.dispatcher.halted
       ∧ (w.extractLsb' 20 2).toNat = (s.mover 0).state.code ∧ (w.extractLsb' 22 2).toNat = (s.mover 1).state.code
       ∧ w.extractLsb' 24 7 = 0 ∧ w.getLsbD 31 = s.badAccess)
    ∧ (∀ i : SurfaceIndex, s.surfaceSelect.toNat = i.val →
       let d := decodeStaging (Vector.ofFn fun k : Fin 7 => s.readRegister (BitVec.ofNat 6 (0x20 + k.val)))
       let f := s.surface i
       d.shape = f.shape ∧ d.elementSize = f.elementSize ∧ d.readable = f.readable ∧ d.writable = f.writable
       ∧ d.keyPresent = f.key.isSome ∧ d.key = f.key.getD 0 ∧ d.bindingPresent = f.binding.isSome
       ∧ d.line = f.binding.getD 0 ∧ d.burst = f.burst ∧ d.base = f.base ∧ d.xExtent = f.xExtent
       ∧ d.yExtent = f.yExtent ∧ d.zExtent = f.zExtent ∧ d.rowPitch = f.rowPitch ∧ d.slicePitch = f.slicePitch
       ∧ (let w := s.readRegister 0x27
          (w.extractLsb' 0 2).toNat = f.state.code ∧ (f.refcount ≤ 31 → (w.extractLsb' 8 5).toNat = f.refcount)
          ∧ w.extractLsb' 16 4 = f.generation))
    ∧ (24 ≤ s.surfaceSelect.toNat → ∀ k : Fin 8, s.readRegister (BitVec.ofNat 6 (0x20 + k.val)) = 0)
    ∧ (∀ (r : Completion) (rest : List Completion), s.completions = r :: rest →
       let w := s.readRegister 0x28
       (w.extractLsb' 0 3).toNat = r.outcome.code ∧ w.getLsbD 3 = r.signal ∧ (w.extractLsb' 4 2).toNat = r.kind.code
       ∧ (w.extractLsb' 6 2).toNat = moverCode r.mover ∧ w.extractLsb' 8 8 = r.tag ∧ w.extractLsb' 16 16 = r.sequence
       ∧ (r.moved ≤ 16777216 → ((s.readRegister 0x29).extractLsb' 0 25).toNat = r.moved)
       ∧ ((s.readRegister 0x29).getLsbD 31 = true ↔ ∃ x ∈ r.fault, x.side = .write)
       ∧ (r.skipped ≤ 16777216 → (s.readRegister 0x2A).toNat = r.skipped)
       ∧ (r.clipped ≤ 16777216 → (s.readRegister 0x2B).toNat = r.clipped)
       ∧ s.readRegister 0x2C = (r.fault.map FaultItem.address).getD 0)
    ∧ (s.completions = [] → s.readRegister 0x28 = s.sequence.setWidth 32 <<< 16
       ∧ ∀ k : Fin 4, s.readRegister (BitVec.ofNat 6 (0x29 + k.val)) = 0)
    ∧ (let w := s.readRegister 0x02
       (w.extractLsb' 0 8).toNat = s.controlResult.code.code ∧ w.extractLsb' 8 24 = s.controlResult.value)
    ∧ (let w := s.readRegister 0x11
       (w.extractLsb' 0 8).toNat = s.postResult.code.code ∧ w.extractLsb' 8 8 = s.postResult.tag
       ∧ (s.postResult.count ≤ 16 → (w.extractLsb' 16 8).toNat = s.postResult.count))
    ∧ (let w := s.readRegister 0x13
       (w.extractLsb' 0 2).toNat = s.reader.state.code ∧ (w.extractLsb' 4 3).toNat = s.reader.endReason.code
       ∧ (w.extractLsb' 8 8).toNat = (s.reader.refusal.map Reason.code).getD 0)
    ∧ s.readRegister 0x14 = s.reader.stopAddress
    ∧ s.readRegister 0x15 = s.reader.count
    ∧ s.readRegister 0x17 = s.freedSet.setWidth 32
    ∧ (SettingsInRange s →
       ((s.readRegister 0x06).extractLsb' 0 8).toNat = s.completionThreshold
       ∧ ((s.readRegister 0x06).extractLsb' 8 8).toNat = s.lowWater
       ∧ (s.readRegister 0x07).toNat = s.timeBase)
    ∧ (s.dispatcher.fault = none → ∀ k : Fin 3, s.readRegister (BitVec.ofNat 6 (0x2E + k.val)) = 0)
    ∧ (∀ r ∈ s.dispatcher.fault,
       let w := s.readRegister 0x2E
       w.getLsbD 0 = true ∧ (w.getLsbD 1 = true ↔ r.item.side = .write) ∧ (w.extractLsb' 2 2).toNat = r.mover.val + 1
       ∧ (w.extractLsb' 4 2).toNat = r.kind.code
       ∧ s.readRegister 0x2F = r.tag.setWidth 32 ∧ s.readRegister 0x30 = r.item.address)
    ∧ (∀ n : LineIndex,
       let l := s.line n
       let c := s.readRegister (BitVec.ofNat 6 (0x32 + n.val))
       let w := s.readRegister 0x36
       c.extractLsb' 0 16 = l.timeout ∧ (c.getLsbD 16 = true ↔ l.mode = .demand)
       ∧ (w.extractLsb' (8 * n.val) 2).toNat = l.state.code
       ∧ (w.extractLsb' (8 * n.val + 2) 2).toNat = moverCode l.bound
       ∧ (w.getLsbD (8 * n.val + 4) = true ↔ (if l.state = .idle then l.mode else l.latchedMode) = .demand)
       ∧ (w.getLsbD (8 * n.val + 5) = true ↔ (l.state = .wait ∨ l.state = .waitLow) ∧ l.latchedTimeout ≠ 0)
       ∧ w.getLsbD (8 * n.val + 6) = l.endSeen ∧ w.getLsbD (8 * n.val + 7) = l.request)
    ∧ (∀ offset : Offset, offset.toNat ∈ [0x01, 0x0F, 0x10, 0x16, 0x2D, 0x31] ∨ 0x37 ≤ offset.toNat →
       s.readRegister offset = 0)
    ∧ (∀ (offset : Offset) (enables : BitVec 4),
       s.windowRead offset enables =
         if s.inReset = true then none else if enables = 15 then some (s.readRegister offset) else some 0)

/-- Encoding and decoding of the window's word writes agree: every well-formed command that is a word write comes back from
its offset and word, every word write is a well-formed command, and that command acts as the word write at that offset
(R165, R167, Table 9-1, Table 9-8). That REGISTER_WRITE at another row's offset acts as that row is the model's choice
(log 14). -/
def Obligations.WordWritesRoundTrip : Prop :=
  (∀ (i : Instr) (offset : Offset) (word : Word), i.wellFormed = true → encodeWordWrite i = some (offset, word) →
    decodeWordWrite offset word = i)
  ∧ (∀ (offset : Offset) (word : Word), (decodeWordWrite offset word).wellFormed = true)
  ∧ (∀ (offset : Offset) (word : Word) (s : State),
      exec (decodeWordWrite offset word) s = exec (.registerWrite offset word) s)

/-- ENGINE_RESET: every effect of Table 8-3, and everything that the table keeps (R23, R71, R96, R116, R131, R148, R162,
R179). -/
def Obligations.EngineResetEmptiesEngine : Prop :=
  ∀ s : State, s.inReset = false →
    ∃ (table : Vector Surface 24) (freed : BitVec 24),
      exec .engineReset s =
        .next { s with
          surfaces := table
          freedSet := freed
          queue := []
          dispatcher := { halted := false, waitReason := .none, slotRequest := false, fault := none }
          movers := Vector.replicate 2 Mover.idle
          lines := Vector.ofFn fun n =>
            { s.line n with state := .idle, bound := none, timerRunning := false, endSeen := false }
          completions := []
          sequence := 0
          causes := 0
          reader := ListReader.reset
          grant := s.grant.map fun g => { g with live := false }
          controlResult := { code := .ok, value := 0 } }
      ∧ (∀ i : SurfaceIndex, table[i] =
          { s.surface i with
            refcount := 0
            state := if (s.surface i).state = .draining then .free else (s.surface i).state })
      ∧ (∀ i : SurfaceIndex,
          freed.getLsbD i.val = (s.freedSet.getLsbD i.val || (s.surface i).state == .draining))

/-- An error response and an ENGINE_RESET in either order leave the device in the same state (R163): every block of Table 8-3,
whoever waits, and where nobody waits the master port too. The burst in progress and the rotation order are no row of that
table (the model's reading, log 21): where another requester waits, the port that the error frees is granted to it in that
event (R178), and the grant outlives the reset. -/
def Obligations.EngineResetAndErrorCommute : Prop :=
  ∀ s t u v w : State, s.inReset = false →
    exec .beatError s = .next t → exec .engineReset t = .next u →
    exec .engineReset s = .next v → exec .beatError v = .next w →
    u = { w with grant := u.grant, rotation := u.rotation } ∧ ((∀ r, s.waiting r = none) → u = w)

/-- The arbiter (R178): a request at a free port is granted at once and else waits; the port freed goes to the first waiting
requester of the rotation order; one that waits for another's burst is granted at the next grant, or stands first in the
rotation order and waits for the one after. Two requests that one event brings to a free port: either may be granted
first, by a free value (log 9). -/
def Obligations.ArbiterServesInRotation : Prop :=
  (∀ (s : State) (r : Requester) (b : Burst),
    (s.grant = none →
      (s.requestBurst r b).grant = some { owner := r, live := true, burst := b }
      ∧ (s.requestBurst r b).rotation = s.rotation.erase r ++ [r])
    ∧ (s.grant ≠ none →
      (s.requestBurst r b).grant = s.grant ∧ (s.requestBurst r b).rotation = s.rotation
      ∧ (s.requestBurst r b).waiting r = some b))
  ∧ (∀ (s : State) (r : Requester) (b : Burst) (before after : List Requester),
      s.rotation = before ++ r :: after → (∀ k ∈ before, s.waiting k = none) → s.waiting r = some b →
      s.releasePort.grant = some { owner := r, live := true, burst := b } ∧ s.releasePort.waiting r = none
      ∧ s.releasePort.rotation = s.rotation.erase r ++ [r])
  ∧ (∀ (s : State) (g : Grant) (r : Requester) (b : Burst), PortSound s → s.grant = some g → g.owner ≠ r →
      s.waiting r = some b →
      (∃ g, s.releasePort.grant = some g ∧ g.owner = r)
      ∨ (s.releasePort.grant ≠ none ∧ s.releasePort.rotation.head? = some r ∧ s.releasePort.waiting r = some b))
  ∧ (∀ (s t : State) (g : Grant) (r : Requester) (b : Burst), s.grant = none → t.grant = some g → g.owner ≠ r →
      t.waiting r = some b → r ∈ t.rotation → (∀ k, k ≠ r → t.waiting k = none) →
      let u := s.eitherOrder t
      (u.grant = some g ∧ u.waiting r = some b ∧ u.rotation = t.rotation)
      ∨ (u.grant = some { owner := r, live := true, burst := b } ∧ u.waiting r = none
          ∧ u.waiting g.owner = some g.burst ∧ u.rotation = s.rotation.erase r ++ [r]))

/-- The registers that the host alone writes, and the results it reads, change by no event of the device; CONTROL_RESULT
changes by control commands alone and POST_RESULT by POST alone (R50, R167, R171). -/
def Obligations.HostSideChangesByHostAlone : Prop :=
  ∀ (i : Instr) (s t : State), exec i s = .next t →
    ((i = .beatError ∨ i = .waitSpacePresentation ∨ i = .tick ∨ (∃ data, i = .beatAnswered data)
        ∨ ∃ n, i = .preqActive n ∨ i = .preqInactive n ∨ i = .pendFall n ∨ i = .timerExpiry n) →
      HostSideKept { s with divider := t.divider } t ∧ (i ≠ .tick → t.divider = s.divider))
    ∧ (i = .post → HostSideKept { s with postResult := t.postResult } t)
    ∧ ((i = .resume ∨ i = .flush ∨ i = .listStart ∨ i = .listStop ∨ (∃ k, i = .define k ∨ i = .release k)
        ∨ (∃ tag, i = .abortTag tag) ∨ i = .engineReset) →
      HostSideKept { s with controlResult := t.controlResult } t)

/-- The data of a transfer. A unit starts by requesting its read side, a FILL its write side with the low bytes of the fill value
in every element. The read side brings exactly the bytes of the unit's source elements, in order. At its end the write side
is requested with those elements: memory is written exactly the bytes of the elements that do not match the key, each at the
destination element of the same offset, and the beats of matching ones are still issued; a port is written the elements that
do not match (R29, R37, R74, R77 to R80, R84, R85). -/
def Obligations.UnitsMoveTheirData : Prop :=
  ∀ (s : State) (m : MoverIndex) (t : Entry), (s.mover m).transfer = some t → ElementSizeLegal (s.elementBytes t) →
    let p := (s.mover m).position
    let n := s.unitElements t p
    let es := s.elementBytes t
    (outstanding s m = [] →
      let u := s.startUnit m
      outstanding u m = startPlan s t p ∧ (u.mover m).buffer = [] ∧ (u.mover m).matched = 0
      ∧ (u.mover m).side = (if t.kind = .fill then .write else .read))
    ∧ (∀ d ∈ t.src, (s.surface d.surface).shape ≠ some .port → UnitAddressed s t p d → ∀ mem : Nat → Byte,
        ((s.readPlan t p).flatMap Burst.beats).flatMap (fun b => laneBytes b.enables (wordAt mem b.address.toNat))
          = (unitOffsets s t p).flatMap fun o =>
              (List.range es).map fun i => mem ((s.surface d.surface).address (d.origin.add o) + i))
    ∧ (∀ d ∈ t.src, (s.surface d.surface).shape = some .port →
        s.readPlan t p = portBursts (s.surface d.surface) false (List.replicate n []))
    ∧ (∀ elements : List (List Byte), elements.length = n → (∀ el ∈ elements, el.length = es) →
        (∀ d ∈ t.dst, (s.surface d.surface).shape ≠ some .port → UnitAddressed s t p d →
          (∀ (a : Nat) (v : Byte),
            (∃ b ∈ (s.writePlan t p elements).flatMap Burst.beats, b.byteAt a = some v) ↔
              ∃ (j i : Nat) (o : Triple) (el : List Byte), (unitOffsets s t p)[j]? = some o ∧ elements[j]? = some el
                ∧ ¬ MatchesKey s t el ∧ el[i]? = some v ∧ a = (s.surface d.surface).address (d.origin.add o) + i)
          ∧ ((s.writePlan t p elements).flatMap Burst.beats).map Beat.address
              = ((s.writePlan { t with keyed := false } p elements).flatMap Burst.beats).map Beat.address)
        ∧ (∀ d ∈ t.dst, (s.surface d.surface).shape = some .port →
          s.writePlan t p elements =
            portBursts (s.surface d.surface) true (elements.filter fun el => !decide (MatchesKey s t el))))
    ∧ (∀ (data : Word) (g : Grant) (b : Beat) (first : Burst) (later : List Burst), s.inReset = false →
        s.grant = some g → g.live = true → g.owner = .mover m → g.burst.write = false → g.burst.beats = [b] →
        (s.mover m).bursts = [] → (s.mover m).side = .read → (∀ r, s.waiting r = none) → .mover m ∈ s.rotation →
        let whole := (s.mover m).buffer ++ laneBytes b.enables data
        let elements := pieces es n whole
        whole.length = n * es → s.writePlan t p elements = first :: later →
        exec (.beatAnswered data) s =
          .next { s.setMover m { s.mover m with
              buffer := whole, side := .write, matched := matching s t elements, bursts := later } with
            grant := some { owner := .mover m, live := true, burst := first }
            rotation := s.rotation.erase (.mover m) ++ [.mover m] })
end

