-- ==== Sys2Proof/Laws/State.lean ====
section
/-! SUPPORT. For every update of the state, its fields: one lemma per field per update, each true by rfl, so that no later
proof unfolds a record update. -/

namespace Sys2Proof.Machine

section Fields

variable (s : State)

/-! #### setMover -/

@[simp] theorem setMover_pending (m : MoverIndex) (v : Mover) : (s.setMover m v).pending = s.pending := rfl
@[simp] theorem setMover_draws (m : MoverIndex) (v : Mover) : (s.setMover m v).draws = s.draws := rfl
@[simp] theorem setMover_inReset (m : MoverIndex) (v : Mover) : (s.setMover m v).inReset = s.inReset := rfl
@[simp] theorem setMover_surfaces (m : MoverIndex) (v : Mover) : (s.setMover m v).surfaces = s.surfaces := rfl
@[simp] theorem setMover_surfaceStaging (m : MoverIndex) (v : Mover) : (s.setMover m v).surfaceStaging = s.surfaceStaging := rfl
@[simp] theorem setMover_surfaceSelect (m : MoverIndex) (v : Mover) : (s.setMover m v).surfaceSelect = s.surfaceSelect := rfl
@[simp] theorem setMover_freedSet (m : MoverIndex) (v : Mover) : (s.setMover m v).freedSet = s.freedSet := rfl
@[simp] theorem setMover_commandStaging (m : MoverIndex) (v : Mover) : (s.setMover m v).commandStaging = s.commandStaging := rfl
@[simp] theorem setMover_queue (m : MoverIndex) (v : Mover) : (s.setMover m v).queue = s.queue := rfl
@[simp] theorem setMover_postResult (m : MoverIndex) (v : Mover) : (s.setMover m v).postResult = s.postResult := rfl
@[simp] theorem setMover_dispatcher (m : MoverIndex) (v : Mover) : (s.setMover m v).dispatcher = s.dispatcher := rfl
@[simp] theorem setMover_lines (m : MoverIndex) (v : Mover) : (s.setMover m v).lines = s.lines := rfl
@[simp] theorem setMover_timeBase (m : MoverIndex) (v : Mover) : (s.setMover m v).timeBase = s.timeBase := rfl
@[simp] theorem setMover_divider (m : MoverIndex) (v : Mover) : (s.setMover m v).divider = s.divider := rfl
@[simp] theorem setMover_completions (m : MoverIndex) (v : Mover) : (s.setMover m v).completions = s.completions := rfl
@[simp] theorem setMover_sequence (m : MoverIndex) (v : Mover) : (s.setMover m v).sequence = s.sequence := rfl
@[simp] theorem setMover_causes (m : MoverIndex) (v : Mover) : (s.setMover m v).causes = s.causes := rfl
@[simp] theorem setMover_enables (m : MoverIndex) (v : Mover) : (s.setMover m v).enables = s.enables := rfl
@[simp] theorem setMover_completionThreshold (m : MoverIndex) (v : Mover) : (s.setMover m v).completionThreshold = s.completionThreshold := rfl
@[simp] theorem setMover_lowWater (m : MoverIndex) (v : Mover) : (s.setMover m v).lowWater = s.lowWater := rfl
@[simp] theorem setMover_reader (m : MoverIndex) (v : Mover) : (s.setMover m v).reader = s.reader := rfl
@[simp] theorem setMover_listAddress (m : MoverIndex) (v : Mover) : (s.setMover m v).listAddress = s.listAddress := rfl
@[simp] theorem setMover_rotation (m : MoverIndex) (v : Mover) : (s.setMover m v).rotation = s.rotation := rfl
@[simp] theorem setMover_grant (m : MoverIndex) (v : Mover) : (s.setMover m v).grant = s.grant := rfl
@[simp] theorem setMover_controlResult (m : MoverIndex) (v : Mover) : (s.setMover m v).controlResult = s.controlResult := rfl
@[simp] theorem setMover_badAccess (m : MoverIndex) (v : Mover) : (s.setMover m v).badAccess = s.badAccess := rfl

/-! #### setLine -/

@[simp] theorem setLine_pending (n : LineIndex) (v : PacingLine) : (s.setLine n v).pending = s.pending := rfl
@[simp] theorem setLine_draws (n : LineIndex) (v : PacingLine) : (s.setLine n v).draws = s.draws := rfl
@[simp] theorem setLine_inReset (n : LineIndex) (v : PacingLine) : (s.setLine n v).inReset = s.inReset := rfl
@[simp] theorem setLine_surfaces (n : LineIndex) (v : PacingLine) : (s.setLine n v).surfaces = s.surfaces := rfl
@[simp] theorem setLine_surfaceStaging (n : LineIndex) (v : PacingLine) : (s.setLine n v).surfaceStaging = s.surfaceStaging := rfl
@[simp] theorem setLine_surfaceSelect (n : LineIndex) (v : PacingLine) : (s.setLine n v).surfaceSelect = s.surfaceSelect := rfl
@[simp] theorem setLine_freedSet (n : LineIndex) (v : PacingLine) : (s.setLine n v).freedSet = s.freedSet := rfl
@[simp] theorem setLine_commandStaging (n : LineIndex) (v : PacingLine) : (s.setLine n v).commandStaging = s.commandStaging := rfl
@[simp] theorem setLine_queue (n : LineIndex) (v : PacingLine) : (s.setLine n v).queue = s.queue := rfl
@[simp] theorem setLine_postResult (n : LineIndex) (v : PacingLine) : (s.setLine n v).postResult = s.postResult := rfl
@[simp] theorem setLine_dispatcher (n : LineIndex) (v : PacingLine) : (s.setLine n v).dispatcher = s.dispatcher := rfl
@[simp] theorem setLine_movers (n : LineIndex) (v : PacingLine) : (s.setLine n v).movers = s.movers := rfl
@[simp] theorem setLine_timeBase (n : LineIndex) (v : PacingLine) : (s.setLine n v).timeBase = s.timeBase := rfl
@[simp] theorem setLine_divider (n : LineIndex) (v : PacingLine) : (s.setLine n v).divider = s.divider := rfl
@[simp] theorem setLine_completions (n : LineIndex) (v : PacingLine) : (s.setLine n v).completions = s.completions := rfl
@[simp] theorem setLine_sequence (n : LineIndex) (v : PacingLine) : (s.setLine n v).sequence = s.sequence := rfl
@[simp] theorem setLine_causes (n : LineIndex) (v : PacingLine) : (s.setLine n v).causes = s.causes := rfl
@[simp] theorem setLine_enables (n : LineIndex) (v : PacingLine) : (s.setLine n v).enables = s.enables := rfl
@[simp] theorem setLine_completionThreshold (n : LineIndex) (v : PacingLine) : (s.setLine n v).completionThreshold = s.completionThreshold := rfl
@[simp] theorem setLine_lowWater (n : LineIndex) (v : PacingLine) : (s.setLine n v).lowWater = s.lowWater := rfl
@[simp] theorem setLine_reader (n : LineIndex) (v : PacingLine) : (s.setLine n v).reader = s.reader := rfl
@[simp] theorem setLine_listAddress (n : LineIndex) (v : PacingLine) : (s.setLine n v).listAddress = s.listAddress := rfl
@[simp] theorem setLine_rotation (n : LineIndex) (v : PacingLine) : (s.setLine n v).rotation = s.rotation := rfl
@[simp] theorem setLine_grant (n : LineIndex) (v : PacingLine) : (s.setLine n v).grant = s.grant := rfl
@[simp] theorem setLine_controlResult (n : LineIndex) (v : PacingLine) : (s.setLine n v).controlResult = s.controlResult := rfl
@[simp] theorem setLine_badAccess (n : LineIndex) (v : PacingLine) : (s.setLine n v).badAccess = s.badAccess := rfl

/-! #### setSurface -/

@[simp] theorem setSurface_pending (i : SurfaceIndex) (v : Surface) : (s.setSurface i v).pending = s.pending := rfl
@[simp] theorem setSurface_draws (i : SurfaceIndex) (v : Surface) : (s.setSurface i v).draws = s.draws := rfl
@[simp] theorem setSurface_inReset (i : SurfaceIndex) (v : Surface) : (s.setSurface i v).inReset = s.inReset := rfl
@[simp] theorem setSurface_surfaceStaging (i : SurfaceIndex) (v : Surface) : (s.setSurface i v).surfaceStaging = s.surfaceStaging := rfl
@[simp] theorem setSurface_surfaceSelect (i : SurfaceIndex) (v : Surface) : (s.setSurface i v).surfaceSelect = s.surfaceSelect := rfl
@[simp] theorem setSurface_freedSet (i : SurfaceIndex) (v : Surface) : (s.setSurface i v).freedSet = s.freedSet := rfl
@[simp] theorem setSurface_commandStaging (i : SurfaceIndex) (v : Surface) : (s.setSurface i v).commandStaging = s.commandStaging := rfl
@[simp] theorem setSurface_queue (i : SurfaceIndex) (v : Surface) : (s.setSurface i v).queue = s.queue := rfl
@[simp] theorem setSurface_postResult (i : SurfaceIndex) (v : Surface) : (s.setSurface i v).postResult = s.postResult := rfl
@[simp] theorem setSurface_dispatcher (i : SurfaceIndex) (v : Surface) : (s.setSurface i v).dispatcher = s.dispatcher := rfl
@[simp] theorem setSurface_movers (i : SurfaceIndex) (v : Surface) : (s.setSurface i v).movers = s.movers := rfl
@[simp] theorem setSurface_lines (i : SurfaceIndex) (v : Surface) : (s.setSurface i v).lines = s.lines := rfl
@[simp] theorem setSurface_timeBase (i : SurfaceIndex) (v : Surface) : (s.setSurface i v).timeBase = s.timeBase := rfl
@[simp] theorem setSurface_divider (i : SurfaceIndex) (v : Surface) : (s.setSurface i v).divider = s.divider := rfl
@[simp] theorem setSurface_completions (i : SurfaceIndex) (v : Surface) : (s.setSurface i v).completions = s.completions := rfl
@[simp] theorem setSurface_sequence (i : SurfaceIndex) (v : Surface) : (s.setSurface i v).sequence = s.sequence := rfl
@[simp] theorem setSurface_causes (i : SurfaceIndex) (v : Surface) : (s.setSurface i v).causes = s.causes := rfl
@[simp] theorem setSurface_enables (i : SurfaceIndex) (v : Surface) : (s.setSurface i v).enables = s.enables := rfl
@[simp] theorem setSurface_completionThreshold (i : SurfaceIndex) (v : Surface) : (s.setSurface i v).completionThreshold = s.completionThreshold := rfl
@[simp] theorem setSurface_lowWater (i : SurfaceIndex) (v : Surface) : (s.setSurface i v).lowWater = s.lowWater := rfl
@[simp] theorem setSurface_reader (i : SurfaceIndex) (v : Surface) : (s.setSurface i v).reader = s.reader := rfl
@[simp] theorem setSurface_listAddress (i : SurfaceIndex) (v : Surface) : (s.setSurface i v).listAddress = s.listAddress := rfl
@[simp] theorem setSurface_rotation (i : SurfaceIndex) (v : Surface) : (s.setSurface i v).rotation = s.rotation := rfl
@[simp] theorem setSurface_grant (i : SurfaceIndex) (v : Surface) : (s.setSurface i v).grant = s.grant := rfl
@[simp] theorem setSurface_controlResult (i : SurfaceIndex) (v : Surface) : (s.setSurface i v).controlResult = s.controlResult := rfl
@[simp] theorem setSurface_badAccess (i : SurfaceIndex) (v : Surface) : (s.setSurface i v).badAccess = s.badAccess := rfl

/-! #### raise -/

@[simp] theorem raise_pending (c : Cause) : (s.raise c).pending = s.pending := rfl
@[simp] theorem raise_draws (c : Cause) : (s.raise c).draws = s.draws := rfl
@[simp] theorem raise_inReset (c : Cause) : (s.raise c).inReset = s.inReset := rfl
@[simp] theorem raise_surfaces (c : Cause) : (s.raise c).surfaces = s.surfaces := rfl
@[simp] theorem raise_surfaceStaging (c : Cause) : (s.raise c).surfaceStaging = s.surfaceStaging := rfl
@[simp] theorem raise_surfaceSelect (c : Cause) : (s.raise c).surfaceSelect = s.surfaceSelect := rfl
@[simp] theorem raise_freedSet (c : Cause) : (s.raise c).freedSet = s.freedSet := rfl
@[simp] theorem raise_commandStaging (c : Cause) : (s.raise c).commandStaging = s.commandStaging := rfl
@[simp] theorem raise_queue (c : Cause) : (s.raise c).queue = s.queue := rfl
@[simp] theorem raise_postResult (c : Cause) : (s.raise c).postResult = s.postResult := rfl
@[simp] theorem raise_dispatcher (c : Cause) : (s.raise c).dispatcher = s.dispatcher := rfl
@[simp] theorem raise_movers (c : Cause) : (s.raise c).movers = s.movers := rfl
@[simp] theorem raise_lines (c : Cause) : (s.raise c).lines = s.lines := rfl
@[simp] theorem raise_timeBase (c : Cause) : (s.raise c).timeBase = s.timeBase := rfl
@[simp] theorem raise_divider (c : Cause) : (s.raise c).divider = s.divider := rfl
@[simp] theorem raise_completions (c : Cause) : (s.raise c).completions = s.completions := rfl
@[simp] theorem raise_sequence (c : Cause) : (s.raise c).sequence = s.sequence := rfl
@[simp] theorem raise_enables (c : Cause) : (s.raise c).enables = s.enables := rfl
@[simp] theorem raise_completionThreshold (c : Cause) : (s.raise c).completionThreshold = s.completionThreshold := rfl
@[simp] theorem raise_lowWater (c : Cause) : (s.raise c).lowWater = s.lowWater := rfl
@[simp] theorem raise_reader (c : Cause) : (s.raise c).reader = s.reader := rfl
@[simp] theorem raise_listAddress (c : Cause) : (s.raise c).listAddress = s.listAddress := rfl
@[simp] theorem raise_rotation (c : Cause) : (s.raise c).rotation = s.rotation := rfl
@[simp] theorem raise_grant (c : Cause) : (s.raise c).grant = s.grant := rfl
@[simp] theorem raise_controlResult (c : Cause) : (s.raise c).controlResult = s.controlResult := rfl
@[simp] theorem raise_badAccess (c : Cause) : (s.raise c).badAccess = s.badAccess := rfl

/-! #### result -/

@[simp] theorem result_pending (code : ResultCode) (v : Nat) : (s.result code v).pending = s.pending := rfl
@[simp] theorem result_draws (code : ResultCode) (v : Nat) : (s.result code v).draws = s.draws := rfl
@[simp] theorem result_inReset (code : ResultCode) (v : Nat) : (s.result code v).inReset = s.inReset := rfl
@[simp] theorem result_surfaces (code : ResultCode) (v : Nat) : (s.result code v).surfaces = s.surfaces := rfl
@[simp] theorem result_surfaceStaging (code : ResultCode) (v : Nat) : (s.result code v).surfaceStaging = s.surfaceStaging := rfl
@[simp] theorem result_surfaceSelect (code : ResultCode) (v : Nat) : (s.result code v).surfaceSelect = s.surfaceSelect := rfl
@[simp] theorem result_freedSet (code : ResultCode) (v : Nat) : (s.result code v).freedSet = s.freedSet := rfl
@[simp] theorem result_commandStaging (code : ResultCode) (v : Nat) : (s.result code v).commandStaging = s.commandStaging := rfl
@[simp] theorem result_queue (code : ResultCode) (v : Nat) : (s.result code v).queue = s.queue := rfl
@[simp] theorem result_postResult (code : ResultCode) (v : Nat) : (s.result code v).postResult = s.postResult := rfl
@[simp] theorem result_dispatcher (code : ResultCode) (v : Nat) : (s.result code v).dispatcher = s.dispatcher := rfl
@[simp] theorem result_movers (code : ResultCode) (v : Nat) : (s.result code v).movers = s.movers := rfl
@[simp] theorem result_lines (code : ResultCode) (v : Nat) : (s.result code v).lines = s.lines := rfl
@[simp] theorem result_timeBase (code : ResultCode) (v : Nat) : (s.result code v).timeBase = s.timeBase := rfl
@[simp] theorem result_divider (code : ResultCode) (v : Nat) : (s.result code v).divider = s.divider := rfl
@[simp] theorem result_completions (code : ResultCode) (v : Nat) : (s.result code v).completions = s.completions := rfl
@[simp] theorem result_sequence (code : ResultCode) (v : Nat) : (s.result code v).sequence = s.sequence := rfl
@[simp] theorem result_causes (code : ResultCode) (v : Nat) : (s.result code v).causes = s.causes := rfl
@[simp] theorem result_enables (code : ResultCode) (v : Nat) : (s.result code v).enables = s.enables := rfl
@[simp] theorem result_completionThreshold (code : ResultCode) (v : Nat) : (s.result code v).completionThreshold = s.completionThreshold := rfl
@[simp] theorem result_lowWater (code : ResultCode) (v : Nat) : (s.result code v).lowWater = s.lowWater := rfl
@[simp] theorem result_reader (code : ResultCode) (v : Nat) : (s.result code v).reader = s.reader := rfl
@[simp] theorem result_listAddress (code : ResultCode) (v : Nat) : (s.result code v).listAddress = s.listAddress := rfl
@[simp] theorem result_rotation (code : ResultCode) (v : Nat) : (s.result code v).rotation = s.rotation := rfl
@[simp] theorem result_grant (code : ResultCode) (v : Nat) : (s.result code v).grant = s.grant := rfl
@[simp] theorem result_badAccess (code : ResultCode) (v : Nat) : (s.result code v).badAccess = s.badAccess := rfl

/-! #### setWait -/

@[simp] theorem setWait_pending (r : WaitReason) (b : Bool) : (s.setWait r b).pending = s.pending := rfl
@[simp] theorem setWait_draws (r : WaitReason) (b : Bool) : (s.setWait r b).draws = s.draws := rfl
@[simp] theorem setWait_inReset (r : WaitReason) (b : Bool) : (s.setWait r b).inReset = s.inReset := rfl
@[simp] theorem setWait_surfaces (r : WaitReason) (b : Bool) : (s.setWait r b).surfaces = s.surfaces := rfl
@[simp] theorem setWait_surfaceStaging (r : WaitReason) (b : Bool) : (s.setWait r b).surfaceStaging = s.surfaceStaging := rfl
@[simp] theorem setWait_surfaceSelect (r : WaitReason) (b : Bool) : (s.setWait r b).surfaceSelect = s.surfaceSelect := rfl
@[simp] theorem setWait_freedSet (r : WaitReason) (b : Bool) : (s.setWait r b).freedSet = s.freedSet := rfl
@[simp] theorem setWait_commandStaging (r : WaitReason) (b : Bool) : (s.setWait r b).commandStaging = s.commandStaging := rfl
@[simp] theorem setWait_queue (r : WaitReason) (b : Bool) : (s.setWait r b).queue = s.queue := rfl
@[simp] theorem setWait_postResult (r : WaitReason) (b : Bool) : (s.setWait r b).postResult = s.postResult := rfl
@[simp] theorem setWait_movers (r : WaitReason) (b : Bool) : (s.setWait r b).movers = s.movers := rfl
@[simp] theorem setWait_lines (r : WaitReason) (b : Bool) : (s.setWait r b).lines = s.lines := rfl
@[simp] theorem setWait_timeBase (r : WaitReason) (b : Bool) : (s.setWait r b).timeBase = s.timeBase := rfl
@[simp] theorem setWait_divider (r : WaitReason) (b : Bool) : (s.setWait r b).divider = s.divider := rfl
@[simp] theorem setWait_completions (r : WaitReason) (b : Bool) : (s.setWait r b).completions = s.completions := rfl
@[simp] theorem setWait_sequence (r : WaitReason) (b : Bool) : (s.setWait r b).sequence = s.sequence := rfl
@[simp] theorem setWait_causes (r : WaitReason) (b : Bool) : (s.setWait r b).causes = s.causes := rfl
@[simp] theorem setWait_enables (r : WaitReason) (b : Bool) : (s.setWait r b).enables = s.enables := rfl
@[simp] theorem setWait_completionThreshold (r : WaitReason) (b : Bool) : (s.setWait r b).completionThreshold = s.completionThreshold := rfl
@[simp] theorem setWait_lowWater (r : WaitReason) (b : Bool) : (s.setWait r b).lowWater = s.lowWater := rfl
@[simp] theorem setWait_reader (r : WaitReason) (b : Bool) : (s.setWait r b).reader = s.reader := rfl
@[simp] theorem setWait_listAddress (r : WaitReason) (b : Bool) : (s.setWait r b).listAddress = s.listAddress := rfl
@[simp] theorem setWait_rotation (r : WaitReason) (b : Bool) : (s.setWait r b).rotation = s.rotation := rfl
@[simp] theorem setWait_grant (r : WaitReason) (b : Bool) : (s.setWait r b).grant = s.grant := rfl
@[simp] theorem setWait_controlResult (r : WaitReason) (b : Bool) : (s.setWait r b).controlResult = s.controlResult := rfl
@[simp] theorem setWait_badAccess (r : WaitReason) (b : Bool) : (s.setWait r b).badAccess = s.badAccess := rfl

/-! #### grantTo -/

@[simp] theorem grantTo_pending (r : Requester) (b : Burst) : (s.grantTo r b).pending = s.pending := rfl
@[simp] theorem grantTo_draws (r : Requester) (b : Burst) : (s.grantTo r b).draws = s.draws := rfl
@[simp] theorem grantTo_inReset (r : Requester) (b : Burst) : (s.grantTo r b).inReset = s.inReset := rfl
@[simp] theorem grantTo_surfaces (r : Requester) (b : Burst) : (s.grantTo r b).surfaces = s.surfaces := rfl
@[simp] theorem grantTo_surfaceStaging (r : Requester) (b : Burst) : (s.grantTo r b).surfaceStaging = s.surfaceStaging := rfl
@[simp] theorem grantTo_surfaceSelect (r : Requester) (b : Burst) : (s.grantTo r b).surfaceSelect = s.surfaceSelect := rfl
@[simp] theorem grantTo_freedSet (r : Requester) (b : Burst) : (s.grantTo r b).freedSet = s.freedSet := rfl
@[simp] theorem grantTo_commandStaging (r : Requester) (b : Burst) : (s.grantTo r b).commandStaging = s.commandStaging := rfl
@[simp] theorem grantTo_queue (r : Requester) (b : Burst) : (s.grantTo r b).queue = s.queue := rfl
@[simp] theorem grantTo_postResult (r : Requester) (b : Burst) : (s.grantTo r b).postResult = s.postResult := rfl
@[simp] theorem grantTo_dispatcher (r : Requester) (b : Burst) : (s.grantTo r b).dispatcher = s.dispatcher := rfl
@[simp] theorem grantTo_movers (r : Requester) (b : Burst) : (s.grantTo r b).movers = s.movers := rfl
@[simp] theorem grantTo_lines (r : Requester) (b : Burst) : (s.grantTo r b).lines = s.lines := rfl
@[simp] theorem grantTo_timeBase (r : Requester) (b : Burst) : (s.grantTo r b).timeBase = s.timeBase := rfl
@[simp] theorem grantTo_divider (r : Requester) (b : Burst) : (s.grantTo r b).divider = s.divider := rfl
@[simp] theorem grantTo_completions (r : Requester) (b : Burst) : (s.grantTo r b).completions = s.completions := rfl
@[simp] theorem grantTo_sequence (r : Requester) (b : Burst) : (s.grantTo r b).sequence = s.sequence := rfl
@[simp] theorem grantTo_causes (r : Requester) (b : Burst) : (s.grantTo r b).causes = s.causes := rfl
@[simp] theorem grantTo_enables (r : Requester) (b : Burst) : (s.grantTo r b).enables = s.enables := rfl
@[simp] theorem grantTo_completionThreshold (r : Requester) (b : Burst) : (s.grantTo r b).completionThreshold = s.completionThreshold := rfl
@[simp] theorem grantTo_lowWater (r : Requester) (b : Burst) : (s.grantTo r b).lowWater = s.lowWater := rfl
@[simp] theorem grantTo_reader (r : Requester) (b : Burst) : (s.grantTo r b).reader = s.reader := rfl
@[simp] theorem grantTo_listAddress (r : Requester) (b : Burst) : (s.grantTo r b).listAddress = s.listAddress := rfl
@[simp] theorem grantTo_controlResult (r : Requester) (b : Burst) : (s.grantTo r b).controlResult = s.controlResult := rfl
@[simp] theorem grantTo_badAccess (r : Requester) (b : Burst) : (s.grantTo r b).badAccess = s.badAccess := rfl

/-! #### setRequest -/

@[simp] theorem setRequest_pending (n : LineIndex) (b : Bool) : (s.setRequest n b).pending = s.pending := rfl
@[simp] theorem setRequest_draws (n : LineIndex) (b : Bool) : (s.setRequest n b).draws = s.draws := rfl
@[simp] theorem setRequest_inReset (n : LineIndex) (b : Bool) : (s.setRequest n b).inReset = s.inReset := rfl
@[simp] theorem setRequest_surfaces (n : LineIndex) (b : Bool) : (s.setRequest n b).surfaces = s.surfaces := rfl
@[simp] theorem setRequest_surfaceStaging (n : LineIndex) (b : Bool) : (s.setRequest n b).surfaceStaging = s.surfaceStaging := rfl
@[simp] theorem setRequest_surfaceSelect (n : LineIndex) (b : Bool) : (s.setRequest n b).surfaceSelect = s.surfaceSelect := rfl
@[simp] theorem setRequest_freedSet (n : LineIndex) (b : Bool) : (s.setRequest n b).freedSet = s.freedSet := rfl
@[simp] theorem setRequest_commandStaging (n : LineIndex) (b : Bool) : (s.setRequest n b).commandStaging = s.commandStaging := rfl
@[simp] theorem setRequest_queue (n : LineIndex) (b : Bool) : (s.setRequest n b).queue = s.queue := rfl
@[simp] theorem setRequest_postResult (n : LineIndex) (b : Bool) : (s.setRequest n b).postResult = s.postResult := rfl
@[simp] theorem setRequest_dispatcher (n : LineIndex) (b : Bool) : (s.setRequest n b).dispatcher = s.dispatcher := rfl
@[simp] theorem setRequest_movers (n : LineIndex) (b : Bool) : (s.setRequest n b).movers = s.movers := rfl
@[simp] theorem setRequest_timeBase (n : LineIndex) (b : Bool) : (s.setRequest n b).timeBase = s.timeBase := rfl
@[simp] theorem setRequest_divider (n : LineIndex) (b : Bool) : (s.setRequest n b).divider = s.divider := rfl
@[simp] theorem setRequest_completions (n : LineIndex) (b : Bool) : (s.setRequest n b).completions = s.completions := rfl
@[simp] theorem setRequest_sequence (n : LineIndex) (b : Bool) : (s.setRequest n b).sequence = s.sequence := rfl
@[simp] theorem setRequest_causes (n : LineIndex) (b : Bool) : (s.setRequest n b).causes = s.causes := rfl
@[simp] theorem setRequest_enables (n : LineIndex) (b : Bool) : (s.setRequest n b).enables = s.enables := rfl
@[simp] theorem setRequest_completionThreshold (n : LineIndex) (b : Bool) : (s.setRequest n b).completionThreshold = s.completionThreshold := rfl
@[simp] theorem setRequest_lowWater (n : LineIndex) (b : Bool) : (s.setRequest n b).lowWater = s.lowWater := rfl
@[simp] theorem setRequest_reader (n : LineIndex) (b : Bool) : (s.setRequest n b).reader = s.reader := rfl
@[simp] theorem setRequest_listAddress (n : LineIndex) (b : Bool) : (s.setRequest n b).listAddress = s.listAddress := rfl
@[simp] theorem setRequest_rotation (n : LineIndex) (b : Bool) : (s.setRequest n b).rotation = s.rotation := rfl
@[simp] theorem setRequest_grant (n : LineIndex) (b : Bool) : (s.setRequest n b).grant = s.grant := rfl
@[simp] theorem setRequest_controlResult (n : LineIndex) (b : Bool) : (s.setRequest n b).controlResult = s.controlResult := rfl
@[simp] theorem setRequest_badAccess (n : LineIndex) (b : Bool) : (s.setRequest n b).badAccess = s.badAccess := rfl

/-! #### waitIn -/

@[simp] theorem waitIn_pending (n : LineIndex) (m : MoverIndex) (st : LineState) : (s.waitIn n m st).pending = s.pending := rfl
@[simp] theorem waitIn_draws (n : LineIndex) (m : MoverIndex) (st : LineState) : (s.waitIn n m st).draws = s.draws := rfl
@[simp] theorem waitIn_inReset (n : LineIndex) (m : MoverIndex) (st : LineState) : (s.waitIn n m st).inReset = s.inReset := rfl
@[simp] theorem waitIn_surfaces (n : LineIndex) (m : MoverIndex) (st : LineState) : (s.waitIn n m st).surfaces = s.surfaces := rfl
@[simp] theorem waitIn_surfaceStaging (n : LineIndex) (m : MoverIndex) (st : LineState) : (s.waitIn n m st).surfaceStaging = s.surfaceStaging := rfl
@[simp] theorem waitIn_surfaceSelect (n : LineIndex) (m : MoverIndex) (st : LineState) : (s.waitIn n m st).surfaceSelect = s.surfaceSelect := rfl
@[simp] theorem waitIn_freedSet (n : LineIndex) (m : MoverIndex) (st : LineState) : (s.waitIn n m st).freedSet = s.freedSet := rfl
@[simp] theorem waitIn_commandStaging (n : LineIndex) (m : MoverIndex) (st : LineState) : (s.waitIn n m st).commandStaging = s.commandStaging := rfl
@[simp] theorem waitIn_queue (n : LineIndex) (m : MoverIndex) (st : LineState) : (s.waitIn n m st).queue = s.queue := rfl
@[simp] theorem waitIn_postResult (n : LineIndex) (m : MoverIndex) (st : LineState) : (s.waitIn n m st).postResult = s.postResult := rfl
@[simp] theorem waitIn_dispatcher (n : LineIndex) (m : MoverIndex) (st : LineState) : (s.waitIn n m st).dispatcher = s.dispatcher := rfl
@[simp] theorem waitIn_timeBase (n : LineIndex) (m : MoverIndex) (st : LineState) : (s.waitIn n m st).timeBase = s.timeBase := rfl
@[simp] theorem waitIn_divider (n : LineIndex) (m : MoverIndex) (st : LineState) : (s.waitIn n m st).divider = s.divider := rfl
@[simp] theorem waitIn_completions (n : LineIndex) (m : MoverIndex) (st : LineState) : (s.waitIn n m st).completions = s.completions := rfl
@[simp] theorem waitIn_sequence (n : LineIndex) (m : MoverIndex) (st : LineState) : (s.waitIn n m st).sequence = s.sequence := rfl
@[simp] theorem waitIn_causes (n : LineIndex) (m : MoverIndex) (st : LineState) : (s.waitIn n m st).causes = s.causes := rfl
@[simp] theorem waitIn_enables (n : LineIndex) (m : MoverIndex) (st : LineState) : (s.waitIn n m st).enables = s.enables := rfl
@[simp] theorem waitIn_completionThreshold (n : LineIndex) (m : MoverIndex) (st : LineState) : (s.waitIn n m st).completionThreshold = s.completionThreshold := rfl
@[simp] theorem waitIn_lowWater (n : LineIndex) (m : MoverIndex) (st : LineState) : (s.waitIn n m st).lowWater = s.lowWater := rfl
@[simp] theorem waitIn_reader (n : LineIndex) (m : MoverIndex) (st : LineState) : (s.waitIn n m st).reader = s.reader := rfl
@[simp] theorem waitIn_listAddress (n : LineIndex) (m : MoverIndex) (st : LineState) : (s.waitIn n m st).listAddress = s.listAddress := rfl
@[simp] theorem waitIn_rotation (n : LineIndex) (m : MoverIndex) (st : LineState) : (s.waitIn n m st).rotation = s.rotation := rfl
@[simp] theorem waitIn_grant (n : LineIndex) (m : MoverIndex) (st : LineState) : (s.waitIn n m st).grant = s.grant := rfl
@[simp] theorem waitIn_controlResult (n : LineIndex) (m : MoverIndex) (st : LineState) : (s.waitIn n m st).controlResult = s.controlResult := rfl
@[simp] theorem waitIn_badAccess (n : LineIndex) (m : MoverIndex) (st : LineState) : (s.waitIn n m st).badAccess = s.badAccess := rfl

/-! #### idleLine -/

@[simp] theorem idleLine_pending (n : LineIndex) : (s.idleLine n).pending = s.pending := rfl
@[simp] theorem idleLine_draws (n : LineIndex) : (s.idleLine n).draws = s.draws := rfl
@[simp] theorem idleLine_inReset (n : LineIndex) : (s.idleLine n).inReset = s.inReset := rfl
@[simp] theorem idleLine_surfaces (n : LineIndex) : (s.idleLine n).surfaces = s.surfaces := rfl
@[simp] theorem idleLine_surfaceStaging (n : LineIndex) : (s.idleLine n).surfaceStaging = s.surfaceStaging := rfl
@[simp] theorem idleLine_surfaceSelect (n : LineIndex) : (s.idleLine n).surfaceSelect = s.surfaceSelect := rfl
@[simp] theorem idleLine_freedSet (n : LineIndex) : (s.idleLine n).freedSet = s.freedSet := rfl
@[simp] theorem idleLine_commandStaging (n : LineIndex) : (s.idleLine n).commandStaging = s.commandStaging := rfl
@[simp] theorem idleLine_queue (n : LineIndex) : (s.idleLine n).queue = s.queue := rfl
@[simp] theorem idleLine_postResult (n : LineIndex) : (s.idleLine n).postResult = s.postResult := rfl
@[simp] theorem idleLine_dispatcher (n : LineIndex) : (s.idleLine n).dispatcher = s.dispatcher := rfl
@[simp] theorem idleLine_movers (n : LineIndex) : (s.idleLine n).movers = s.movers := rfl
@[simp] theorem idleLine_timeBase (n : LineIndex) : (s.idleLine n).timeBase = s.timeBase := rfl
@[simp] theorem idleLine_divider (n : LineIndex) : (s.idleLine n).divider = s.divider := rfl
@[simp] theorem idleLine_completions (n : LineIndex) : (s.idleLine n).completions = s.completions := rfl
@[simp] theorem idleLine_sequence (n : LineIndex) : (s.idleLine n).sequence = s.sequence := rfl
@[simp] theorem idleLine_causes (n : LineIndex) : (s.idleLine n).causes = s.causes := rfl
@[simp] theorem idleLine_enables (n : LineIndex) : (s.idleLine n).enables = s.enables := rfl
@[simp] theorem idleLine_completionThreshold (n : LineIndex) : (s.idleLine n).completionThreshold = s.completionThreshold := rfl
@[simp] theorem idleLine_lowWater (n : LineIndex) : (s.idleLine n).lowWater = s.lowWater := rfl
@[simp] theorem idleLine_reader (n : LineIndex) : (s.idleLine n).reader = s.reader := rfl
@[simp] theorem idleLine_listAddress (n : LineIndex) : (s.idleLine n).listAddress = s.listAddress := rfl
@[simp] theorem idleLine_rotation (n : LineIndex) : (s.idleLine n).rotation = s.rotation := rfl
@[simp] theorem idleLine_grant (n : LineIndex) : (s.idleLine n).grant = s.grant := rfl
@[simp] theorem idleLine_controlResult (n : LineIndex) : (s.idleLine n).controlResult = s.controlResult := rfl
@[simp] theorem idleLine_badAccess (n : LineIndex) : (s.idleLine n).badAccess = s.badAccess := rfl

/-! #### addRef -/

@[simp] theorem addRef_pending (i : SurfaceIndex) : (s.addRef i).pending = s.pending := rfl
@[simp] theorem addRef_draws (i : SurfaceIndex) : (s.addRef i).draws = s.draws := rfl
@[simp] theorem addRef_inReset (i : SurfaceIndex) : (s.addRef i).inReset = s.inReset := rfl
@[simp] theorem addRef_surfaceStaging (i : SurfaceIndex) : (s.addRef i).surfaceStaging = s.surfaceStaging := rfl
@[simp] theorem addRef_surfaceSelect (i : SurfaceIndex) : (s.addRef i).surfaceSelect = s.surfaceSelect := rfl
@[simp] theorem addRef_freedSet (i : SurfaceIndex) : (s.addRef i).freedSet = s.freedSet := rfl
@[simp] theorem addRef_commandStaging (i : SurfaceIndex) : (s.addRef i).commandStaging = s.commandStaging := rfl
@[simp] theorem addRef_queue (i : SurfaceIndex) : (s.addRef i).queue = s.queue := rfl
@[simp] theorem addRef_postResult (i : SurfaceIndex) : (s.addRef i).postResult = s.postResult := rfl
@[simp] theorem addRef_dispatcher (i : SurfaceIndex) : (s.addRef i).dispatcher = s.dispatcher := rfl
@[simp] theorem addRef_movers (i : SurfaceIndex) : (s.addRef i).movers = s.movers := rfl
@[simp] theorem addRef_lines (i : SurfaceIndex) : (s.addRef i).lines = s.lines := rfl
@[simp] theorem addRef_timeBase (i : SurfaceIndex) : (s.addRef i).timeBase = s.timeBase := rfl
@[simp] theorem addRef_divider (i : SurfaceIndex) : (s.addRef i).divider = s.divider := rfl
@[simp] theorem addRef_completions (i : SurfaceIndex) : (s.addRef i).completions = s.completions := rfl
@[simp] theorem addRef_sequence (i : SurfaceIndex) : (s.addRef i).sequence = s.sequence := rfl
@[simp] theorem addRef_causes (i : SurfaceIndex) : (s.addRef i).causes = s.causes := rfl
@[simp] theorem addRef_enables (i : SurfaceIndex) : (s.addRef i).enables = s.enables := rfl
@[simp] theorem addRef_completionThreshold (i : SurfaceIndex) : (s.addRef i).completionThreshold = s.completionThreshold := rfl
@[simp] theorem addRef_lowWater (i : SurfaceIndex) : (s.addRef i).lowWater = s.lowWater := rfl
@[simp] theorem addRef_reader (i : SurfaceIndex) : (s.addRef i).reader = s.reader := rfl
@[simp] theorem addRef_listAddress (i : SurfaceIndex) : (s.addRef i).listAddress = s.listAddress := rfl
@[simp] theorem addRef_rotation (i : SurfaceIndex) : (s.addRef i).rotation = s.rotation := rfl
@[simp] theorem addRef_grant (i : SurfaceIndex) : (s.addRef i).grant = s.grant := rfl
@[simp] theorem addRef_controlResult (i : SurfaceIndex) : (s.addRef i).controlResult = s.controlResult := rfl
@[simp] theorem addRef_badAccess (i : SurfaceIndex) : (s.addRef i).badAccess = s.badAccess := rfl

/-! #### free -/

@[simp] theorem free_pending (i : SurfaceIndex) : (s.free i).pending = s.pending := rfl
@[simp] theorem free_draws (i : SurfaceIndex) : (s.free i).draws = s.draws := rfl
@[simp] theorem free_inReset (i : SurfaceIndex) : (s.free i).inReset = s.inReset := rfl
@[simp] theorem free_surfaceStaging (i : SurfaceIndex) : (s.free i).surfaceStaging = s.surfaceStaging := rfl
@[simp] theorem free_surfaceSelect (i : SurfaceIndex) : (s.free i).surfaceSelect = s.surfaceSelect := rfl
@[simp] theorem free_commandStaging (i : SurfaceIndex) : (s.free i).commandStaging = s.commandStaging := rfl
@[simp] theorem free_queue (i : SurfaceIndex) : (s.free i).queue = s.queue := rfl
@[simp] theorem free_postResult (i : SurfaceIndex) : (s.free i).postResult = s.postResult := rfl
@[simp] theorem free_dispatcher (i : SurfaceIndex) : (s.free i).dispatcher = s.dispatcher := rfl
@[simp] theorem free_movers (i : SurfaceIndex) : (s.free i).movers = s.movers := rfl
@[simp] theorem free_lines (i : SurfaceIndex) : (s.free i).lines = s.lines := rfl
@[simp] theorem free_timeBase (i : SurfaceIndex) : (s.free i).timeBase = s.timeBase := rfl
@[simp] theorem free_divider (i : SurfaceIndex) : (s.free i).divider = s.divider := rfl
@[simp] theorem free_completions (i : SurfaceIndex) : (s.free i).completions = s.completions := rfl
@[simp] theorem free_sequence (i : SurfaceIndex) : (s.free i).sequence = s.sequence := rfl
@[simp] theorem free_causes (i : SurfaceIndex) : (s.free i).causes = s.causes := rfl
@[simp] theorem free_enables (i : SurfaceIndex) : (s.free i).enables = s.enables := rfl
@[simp] theorem free_completionThreshold (i : SurfaceIndex) : (s.free i).completionThreshold = s.completionThreshold := rfl
@[simp] theorem free_lowWater (i : SurfaceIndex) : (s.free i).lowWater = s.lowWater := rfl
@[simp] theorem free_reader (i : SurfaceIndex) : (s.free i).reader = s.reader := rfl
@[simp] theorem free_listAddress (i : SurfaceIndex) : (s.free i).listAddress = s.listAddress := rfl
@[simp] theorem free_rotation (i : SurfaceIndex) : (s.free i).rotation = s.rotation := rfl
@[simp] theorem free_grant (i : SurfaceIndex) : (s.free i).grant = s.grant := rfl
@[simp] theorem free_controlResult (i : SurfaceIndex) : (s.free i).controlResult = s.controlResult := rfl
@[simp] theorem free_badAccess (i : SurfaceIndex) : (s.free i).badAccess = s.badAccess := rfl

/-! #### enterFetch -/

@[simp] theorem enterFetch_pending (a : Word) : (s.enterFetch a).pending = s.pending := rfl
@[simp] theorem enterFetch_draws (a : Word) : (s.enterFetch a).draws = s.draws := rfl
@[simp] theorem enterFetch_inReset (a : Word) : (s.enterFetch a).inReset = s.inReset := rfl
@[simp] theorem enterFetch_surfaces (a : Word) : (s.enterFetch a).surfaces = s.surfaces := rfl
@[simp] theorem enterFetch_surfaceStaging (a : Word) : (s.enterFetch a).surfaceStaging = s.surfaceStaging := rfl
@[simp] theorem enterFetch_surfaceSelect (a : Word) : (s.enterFetch a).surfaceSelect = s.surfaceSelect := rfl
@[simp] theorem enterFetch_freedSet (a : Word) : (s.enterFetch a).freedSet = s.freedSet := rfl
@[simp] theorem enterFetch_commandStaging (a : Word) : (s.enterFetch a).commandStaging = s.commandStaging := rfl
@[simp] theorem enterFetch_queue (a : Word) : (s.enterFetch a).queue = s.queue := rfl
@[simp] theorem enterFetch_postResult (a : Word) : (s.enterFetch a).postResult = s.postResult := rfl
@[simp] theorem enterFetch_dispatcher (a : Word) : (s.enterFetch a).dispatcher = s.dispatcher := rfl
@[simp] theorem enterFetch_movers (a : Word) : (s.enterFetch a).movers = s.movers := rfl
@[simp] theorem enterFetch_lines (a : Word) : (s.enterFetch a).lines = s.lines := rfl
@[simp] theorem enterFetch_timeBase (a : Word) : (s.enterFetch a).timeBase = s.timeBase := rfl
@[simp] theorem enterFetch_divider (a : Word) : (s.enterFetch a).divider = s.divider := rfl
@[simp] theorem enterFetch_completions (a : Word) : (s.enterFetch a).completions = s.completions := rfl
@[simp] theorem enterFetch_sequence (a : Word) : (s.enterFetch a).sequence = s.sequence := rfl
@[simp] theorem enterFetch_causes (a : Word) : (s.enterFetch a).causes = s.causes := rfl
@[simp] theorem enterFetch_enables (a : Word) : (s.enterFetch a).enables = s.enables := rfl
@[simp] theorem enterFetch_completionThreshold (a : Word) : (s.enterFetch a).completionThreshold = s.completionThreshold := rfl
@[simp] theorem enterFetch_lowWater (a : Word) : (s.enterFetch a).lowWater = s.lowWater := rfl
@[simp] theorem enterFetch_listAddress (a : Word) : (s.enterFetch a).listAddress = s.listAddress := rfl
@[simp] theorem enterFetch_rotation (a : Word) : (s.enterFetch a).rotation = s.rotation := rfl
@[simp] theorem enterFetch_grant (a : Word) : (s.enterFetch a).grant = s.grant := rfl
@[simp] theorem enterFetch_controlResult (a : Word) : (s.enterFetch a).controlResult = s.controlResult := rfl
@[simp] theorem enterFetch_badAccess (a : Word) : (s.enterFetch a).badAccess = s.badAccess := rfl

/-! #### endList -/

@[simp] theorem endList_pending (w : EndReason) (r : Option Reason) : (s.endList w r).pending = s.pending := rfl
@[simp] theorem endList_draws (w : EndReason) (r : Option Reason) : (s.endList w r).draws = s.draws := rfl
@[simp] theorem endList_inReset (w : EndReason) (r : Option Reason) : (s.endList w r).inReset = s.inReset := rfl
@[simp] theorem endList_surfaces (w : EndReason) (r : Option Reason) : (s.endList w r).surfaces = s.surfaces := rfl
@[simp] theorem endList_surfaceStaging (w : EndReason) (r : Option Reason) : (s.endList w r).surfaceStaging = s.surfaceStaging := rfl
@[simp] theorem endList_surfaceSelect (w : EndReason) (r : Option Reason) : (s.endList w r).surfaceSelect = s.surfaceSelect := rfl
@[simp] theorem endList_freedSet (w : EndReason) (r : Option Reason) : (s.endList w r).freedSet = s.freedSet := rfl
@[simp] theorem endList_commandStaging (w : EndReason) (r : Option Reason) : (s.endList w r).commandStaging = s.commandStaging := rfl
@[simp] theorem endList_queue (w : EndReason) (r : Option Reason) : (s.endList w r).queue = s.queue := rfl
@[simp] theorem endList_postResult (w : EndReason) (r : Option Reason) : (s.endList w r).postResult = s.postResult := rfl
@[simp] theorem endList_dispatcher (w : EndReason) (r : Option Reason) : (s.endList w r).dispatcher = s.dispatcher := rfl
@[simp] theorem endList_movers (w : EndReason) (r : Option Reason) : (s.endList w r).movers = s.movers := rfl
@[simp] theorem endList_lines (w : EndReason) (r : Option Reason) : (s.endList w r).lines = s.lines := rfl
@[simp] theorem endList_timeBase (w : EndReason) (r : Option Reason) : (s.endList w r).timeBase = s.timeBase := rfl
@[simp] theorem endList_divider (w : EndReason) (r : Option Reason) : (s.endList w r).divider = s.divider := rfl
@[simp] theorem endList_completions (w : EndReason) (r : Option Reason) : (s.endList w r).completions = s.completions := rfl
@[simp] theorem endList_sequence (w : EndReason) (r : Option Reason) : (s.endList w r).sequence = s.sequence := rfl
@[simp] theorem endList_enables (w : EndReason) (r : Option Reason) : (s.endList w r).enables = s.enables := rfl
@[simp] theorem endList_completionThreshold (w : EndReason) (r : Option Reason) : (s.endList w r).completionThreshold = s.completionThreshold := rfl
@[simp] theorem endList_lowWater (w : EndReason) (r : Option Reason) : (s.endList w r).lowWater = s.lowWater := rfl
@[simp] theorem endList_listAddress (w : EndReason) (r : Option Reason) : (s.endList w r).listAddress = s.listAddress := rfl
@[simp] theorem endList_rotation (w : EndReason) (r : Option Reason) : (s.endList w r).rotation = s.rotation := rfl
@[simp] theorem endList_grant (w : EndReason) (r : Option Reason) : (s.endList w r).grant = s.grant := rfl
@[simp] theorem endList_controlResult (w : EndReason) (r : Option Reason) : (s.endList w r).controlResult = s.controlResult := rfl
@[simp] theorem endList_badAccess (w : EndReason) (r : Option Reason) : (s.endList w r).badAccess = s.badAccess := rfl

/-! #### What an update writes -/

@[simp] theorem raise_causes (c : Cause) : (s.raise c).causes = s.causes ||| c.mask := rfl
@[simp] theorem result_controlResult (code : ResultCode) (v : Nat) :
    (s.result code v).controlResult = { code := code, value := BitVec.ofNat 24 v } := rfl
@[simp] theorem setWait_dispatcher (r : WaitReason) (b : Bool) :
    (s.setWait r b).dispatcher = { s.dispatcher with waitReason := r, slotRequest := b } := rfl
@[simp] theorem grantTo_grant (r : Requester) (b : Burst) :
    (s.grantTo r b).grant = some { owner := r, live := true, burst := b } := rfl
@[simp] theorem grantTo_rotation (r : Requester) (b : Burst) : (s.grantTo r b).rotation = rotate s.rotation r := rfl

end Fields

/-! ### Reading one mover, line or surface after an update -/

section Indexed

variable (s : State)

@[simp] theorem mover_setMover_same (m : MoverIndex) (v : Mover) : (s.setMover m v).mover m = v := by
  simp [State.mover, State.setMover]

@[simp] theorem mover_setMover_other {m k : MoverIndex} (v : Mover) (h : k ≠ m) :
    (s.setMover m v).mover k = s.mover k := by
  have : m.val ≠ k.val := fun e => h (Fin.ext e.symm)
  simp [State.mover, State.setMover, this]

@[simp] theorem line_setLine_same (n : LineIndex) (v : PacingLine) : (s.setLine n v).line n = v := by
  simp [State.line, State.setLine]

@[simp] theorem line_setLine_other {n k : LineIndex} (v : PacingLine) (h : k ≠ n) :
    (s.setLine n v).line k = s.line k := by
  have : n.val ≠ k.val := fun e => h (Fin.ext e.symm)
  simp [State.line, State.setLine, this]

@[simp] theorem surface_setSurface_same (i : SurfaceIndex) (v : Surface) : (s.setSurface i v).surface i = v := by
  simp [State.surface, State.setSurface]

@[simp] theorem surface_setSurface_other {i k : SurfaceIndex} (v : Surface) (h : k ≠ i) :
    (s.setSurface i v).surface k = s.surface k := by
  have : i.val ≠ k.val := fun e => h (Fin.ext e.symm)
  simp [State.surface, State.setSurface, this]

@[simp] theorem line_setMover (m : MoverIndex) (v : Mover) (k : LineIndex) : (s.setMover m v).line k = s.line k := rfl
@[simp] theorem surface_setMover (m : MoverIndex) (v : Mover) (k : SurfaceIndex) : (s.setMover m v).surface k = s.surface k := rfl
@[simp] theorem mover_setLine (n : LineIndex) (v : PacingLine) (k : MoverIndex) : (s.setLine n v).mover k = s.mover k := rfl
@[simp] theorem surface_setLine (n : LineIndex) (v : PacingLine) (k : SurfaceIndex) : (s.setLine n v).surface k = s.surface k := rfl
@[simp] theorem mover_setSurface (i : SurfaceIndex) (v : Surface) (k : MoverIndex) : (s.setSurface i v).mover k = s.mover k := rfl
@[simp] theorem line_setSurface (i : SurfaceIndex) (v : Surface) (k : LineIndex) : (s.setSurface i v).line k = s.line k := rfl
@[simp] theorem mover_raise (c : Cause) (k : MoverIndex) : (s.raise c).mover k = s.mover k := rfl
@[simp] theorem line_raise (c : Cause) (k : LineIndex) : (s.raise c).line k = s.line k := rfl
@[simp] theorem surface_raise (c : Cause) (k : SurfaceIndex) : (s.raise c).surface k = s.surface k := rfl
@[simp] theorem mover_result (code : ResultCode) (v : Nat) (k : MoverIndex) : (s.result code v).mover k = s.mover k := rfl
@[simp] theorem line_result (code : ResultCode) (v : Nat) (k : LineIndex) : (s.result code v).line k = s.line k := rfl
@[simp] theorem surface_result (code : ResultCode) (v : Nat) (k : SurfaceIndex) : (s.result code v).surface k = s.surface k := rfl
@[simp] theorem mover_setWait (r : WaitReason) (b : Bool) (k : MoverIndex) : (s.setWait r b).mover k = s.mover k := rfl
@[simp] theorem line_setWait (r : WaitReason) (b : Bool) (k : LineIndex) : (s.setWait r b).line k = s.line k := rfl
@[simp] theorem surface_setWait (r : WaitReason) (b : Bool) (k : SurfaceIndex) : (s.setWait r b).surface k = s.surface k := rfl
@[simp] theorem mover_grantTo (r : Requester) (b : Burst) (k : MoverIndex) : (s.grantTo r b).mover k = s.mover k := rfl
@[simp] theorem line_grantTo (r : Requester) (b : Burst) (k : LineIndex) : (s.grantTo r b).line k = s.line k := rfl
@[simp] theorem surface_grantTo (r : Requester) (b : Burst) (k : SurfaceIndex) : (s.grantTo r b).surface k = s.surface k := rfl
@[simp] theorem mover_setRequest (n : LineIndex) (b : Bool) (k : MoverIndex) : (s.setRequest n b).mover k = s.mover k := rfl
@[simp] theorem surface_setRequest (n : LineIndex) (b : Bool) (k : SurfaceIndex) : (s.setRequest n b).surface k = s.surface k := rfl
@[simp] theorem surface_waitIn (n : LineIndex) (m : MoverIndex) (st : LineState) (k : SurfaceIndex) : (s.waitIn n m st).surface k = s.surface k := rfl
@[simp] theorem mover_idleLine (n : LineIndex) (k : MoverIndex) : (s.idleLine n).mover k = s.mover k := rfl
@[simp] theorem surface_idleLine (n : LineIndex) (k : SurfaceIndex) : (s.idleLine n).surface k = s.surface k := rfl
@[simp] theorem mover_addRef (i : SurfaceIndex) (k : MoverIndex) : (s.addRef i).mover k = s.mover k := rfl
@[simp] theorem line_addRef (i : SurfaceIndex) (k : LineIndex) : (s.addRef i).line k = s.line k := rfl
@[simp] theorem mover_free (i : SurfaceIndex) (k : MoverIndex) : (s.free i).mover k = s.mover k := rfl
@[simp] theorem line_free (i : SurfaceIndex) (k : LineIndex) : (s.free i).line k = s.line k := rfl
@[simp] theorem mover_enterFetch (a : Word) (k : MoverIndex) : (s.enterFetch a).mover k = s.mover k := rfl
@[simp] theorem line_enterFetch (a : Word) (k : LineIndex) : (s.enterFetch a).line k = s.line k := rfl
@[simp] theorem surface_enterFetch (a : Word) (k : SurfaceIndex) : (s.enterFetch a).surface k = s.surface k := rfl
@[simp] theorem mover_endList (w : EndReason) (r : Option Reason) (k : MoverIndex) : (s.endList w r).mover k = s.mover k := rfl
@[simp] theorem line_endList (w : EndReason) (r : Option Reason) (k : LineIndex) : (s.endList w r).line k = s.line k := rfl
@[simp] theorem surface_endList (w : EndReason) (r : Option Reason) (k : SurfaceIndex) : (s.endList w r).surface k = s.surface k := rfl

/-- Two states with the same movers read the same mover, and so for lines and surfaces. -/
theorem mover_congr {s t : State} (h : t.movers = s.movers) (k : MoverIndex) : t.mover k = s.mover k := by
  simp [State.mover, h]

theorem line_congr {s t : State} (h : t.lines = s.lines) (k : LineIndex) : t.line k = s.line k := by
  simp [State.line, h]

theorem surface_congr {s t : State} (h : t.surfaces = s.surfaces) (k : SurfaceIndex) : t.surface k = s.surface k := by
  simp [State.surface, h]

end Indexed

end Sys2Proof.Machine
end

