-- ==== Sys2Proof/Laws/Frames.lean ====
section
/-! SUPPORT. For each shared operation, once: everything that it can change. `PortOnly` covers the operations that start
units, `RefsOnly` the references, `EngineOnly` whatever one event of the engine can do. -/

namespace Sys2Proof.Machine

/-- `t` differs from `s` at most in movers, lines, and the master port. -/
def PortOnly (s t : State) : Prop :=
  ∃ ms ls ro gr, t = { s with movers := ms, lines := ls, rotation := ro, grant := gr }

/-- `t` differs from `s` at most in the surface table, FREED_SET and the causes. -/
def RefsOnly (s t : State) : Prop :=
  ∃ sf fs ca, t = { s with surfaces := sf, freedSet := fs, causes := ca }

/-- `t` differs from `s` at most in what the engine's own work changes: surfaces, FREED_SET, command queue, dispatcher,
movers, lines, completion queue, causes, list reader, master port, and the count of free choices. The registers that the
host writes, POST_RESULT, CONTROL_RESULT, the time base and the queue of pending commands are the same. -/
def EngineOnly (s t : State) : Prop :=
  ∃ dr sf fs q d ms ls cs sq ca rd ro gr,
    t = { s with draws := dr, surfaces := sf, freedSet := fs, queue := q, dispatcher := d, movers := ms,
                 lines := ls, completions := cs, sequence := sq, causes := ca, reader := rd, rotation := ro, grant := gr }

theorem PortOnly.refl (s : State) : PortOnly s s := ⟨_, _, _, _, rfl⟩

theorem PortOnly.trans {s t u : State} (h : PortOnly s t) (k : PortOnly t u) : PortOnly s u := by
  obtain ⟨_, _, _, _, rfl⟩ := h
  obtain ⟨_, _, _, _, rfl⟩ := k
  exact ⟨_, _, _, _, rfl⟩

theorem RefsOnly.refl (s : State) : RefsOnly s s := ⟨_, _, _, rfl⟩

theorem RefsOnly.trans {s t u : State} (h : RefsOnly s t) (k : RefsOnly t u) : RefsOnly s u := by
  obtain ⟨_, _, _, rfl⟩ := h
  obtain ⟨_, _, _, rfl⟩ := k
  exact ⟨_, _, _, rfl⟩

theorem EngineOnly.refl (s : State) : EngineOnly s s := ⟨_, _, _, _, _, _, _, _, _, _, _, _, _, rfl⟩

theorem EngineOnly.trans {s t u : State} (h : EngineOnly s t) (k : EngineOnly t u) : EngineOnly s u := by
  obtain ⟨_, _, _, _, _, _, _, _, _, _, _, _, _, rfl⟩ := h
  obtain ⟨_, _, _, _, _, _, _, _, _, _, _, _, _, rfl⟩ := k
  exact ⟨_, _, _, _, _, _, _, _, _, _, _, _, _, rfl⟩

theorem PortOnly.engine {s t : State} (h : PortOnly s t) : EngineOnly s t := by
  obtain ⟨_, _, _, _, rfl⟩ := h
  exact ⟨_, _, _, _, _, _, _, _, _, _, _, _, _, rfl⟩

theorem RefsOnly.engine {s t : State} (h : RefsOnly s t) : EngineOnly s t := by
  obtain ⟨_, _, _, rfl⟩ := h
  exact ⟨_, _, _, _, _, _, _, _, _, _, _, _, _, rfl⟩

/-! ### Movers, lines and the master port -/

section Port

variable (s : State) (m : MoverIndex) (n : LineIndex)

theorem setMover_portOnly (v : Mover) : PortOnly s (s.setMover m v) := ⟨_, _, _, _, rfl⟩

theorem setLine_portOnly (v : PacingLine) : PortOnly s (s.setLine n v) := ⟨_, _, _, _, rfl⟩

theorem grantTo_portOnly (r : Requester) (b : Burst) : PortOnly s (s.grantTo r b) := ⟨_, _, _, _, rfl⟩

theorem requestBurst_portOnly (b : Burst) : PortOnly s (s.requestBurst (.mover m) b) := by
  unfold State.requestBurst
  cases s.grant
  · exact grantTo_portOnly s _ b
  · exact setMover_portOnly s m _

theorem launch_portOnly (bursts : List Burst) : PortOnly s (s.launch m bursts) := by
  cases bursts
  · exact setMover_portOnly s m _
  · exact (setMover_portOnly s m _).trans (requestBurst_portOnly _ m _)

theorem startUnit_portOnly : PortOnly s (s.startUnit m) := by
  unfold State.startUnit
  dsimp only
  split
  · exact .refl s
  · split
    · exact (setMover_portOnly s m _).trans (launch_portOnly _ m _)
    · exact (setMover_portOnly s m _).trans (launch_portOnly _ m _)

theorem admit_portOnly : PortOnly s (s.admitBurst n m) :=
  ((setLine_portOnly s n _).trans (setMover_portOnly _ m _)).trans (startUnit_portOnly _ m)

theorem waitIn_portOnly (st : LineState) : PortOnly s (s.waitIn n m st) :=
  (setLine_portOnly s n _).trans (setMover_portOnly _ m _)

theorem bind_portOnly : PortOnly s (s.bind n m) := by
  unfold State.bind
  dsimp only
  split
  · exact (setLine_portOnly s n _).trans (admit_portOnly _ m n)
  · exact (setLine_portOnly s n _).trans (waitIn_portOnly _ m n _)

theorem burstContinues_portOnly : PortOnly s (s.burstContinues n m) := by
  unfold State.burstContinues
  dsimp only
  refine (setLine_portOnly s n (s.line n).burstOver).trans ?_
  split
  · exact admit_portOnly _ m n
  all_goals exact waitIn_portOnly _ m n _

theorem finish_portOnly (o : Outcome) (f : Option FaultItem) : PortOnly s (s.finish m o f) := by
  unfold State.finish
  dsimp only
  refine (setMover_portOnly s m ((s.mover m).ended o f)).trans ?_
  split
  · exact .refl _
  · exact setLine_portOnly _ _ _

theorem stopMover_portOnly (tag : Tag) : PortOnly s (s.stopMover tag m) := by
  unfold State.stopMover
  dsimp only
  split
  · exact .refl s
  · split
    · split
      · exact setMover_portOnly s m _
      · exact finish_portOnly s m _ _
      · exact .refl s
      · exact .refl s
    · exact .refl s

end Port

/-! ### References -/

section Refs

variable (s : State) (i : SurfaceIndex) (e : Entry)

theorem addRef_refsOnly : RefsOnly s (s.addRef i) := ⟨_, _, _, rfl⟩

theorem returnRef_refsOnly : RefsOnly s (s.returnRef i) := by
  unfold State.returnRef
  dsimp only
  split <;> exact ⟨_, _, _, rfl⟩

theorem foldl_refsOnly {α : Type} (f : State → α → State) (hf : ∀ s a, RefsOnly s (f s a)) :
    ∀ (l : List α) (s : State), RefsOnly s (l.foldl f s)
  | [], s => .refl s
  | a :: l, s => (hf s a).trans (foldl_refsOnly f hf l (f s a))

theorem addRefs_refsOnly : RefsOnly s (s.addRefs e) :=
  foldl_refsOnly _ addRef_refsOnly _ s

theorem returnRefs_refsOnly : RefsOnly s (s.returnRefs e) :=
  foldl_refsOnly _ returnRef_refsOnly _ s

end Refs

/-! ### Postings, removals, issue and examination -/

section Engine

variable (s : State) (m : MoverIndex) (e : Entry)

theorem raiseIf_causes_only (b : Bool) (c : Cause) : ∃ ca, s.raiseIf b c = { s with causes := ca } := by
  cases b
  · exact ⟨_, rfl⟩
  · exact ⟨_, rfl⟩

/-- A posting changes the completion queue, its counter and the causes. -/
theorem appendRecord_only (r : Completion) :
    ∃ ca, s.appendRecord r =
      { s with completions := s.completions ++ [{ r with sequence := s.sequence }]
               sequence := s.sequence + 1, causes := ca } := by
  unfold State.appendRecord
  dsimp only
  obtain ⟨c1, h1⟩ := raiseIf_causes_only
    { s with completions := s.completions ++ [{ r with sequence := s.sequence }], sequence := s.sequence + 1 }
    (s.completionThreshold ≤ (s.completions ++ [{ r with sequence := s.sequence }]).length) .completion
  rw [h1]
  obtain ⟨c2, h2⟩ := raiseIf_causes_only
    { s with completions := s.completions ++ [{ r with sequence := s.sequence }], sequence := s.sequence + 1, causes := c1 }
    r.signal .signal
  exact ⟨c2, h2⟩

/-- A removal of the head changes the queue, the causes and the reader's due presentation. -/
theorem removeHead_only :
    ∃ ca, s.removeHead =
      { s with queue := s.queue.tail, causes := ca
               reader := { s.reader with due := s.reader.due || s.reader.state == .waitSpace } } := by
  unfold State.removeHead
  dsimp only
  obtain ⟨c, h⟩ := raiseIf_causes_only { s with queue := s.queue.tail }
    (State.freeSlots { s with queue := s.queue.tail } = s.lowWater) .lowWater
  rw [h]
  exact ⟨c, rfl⟩

theorem appendRecord_engineOnly (r : Completion) : EngineOnly s (s.appendRecord r) := by
  obtain ⟨_, h⟩ := appendRecord_only s r
  rw [h]
  exact ⟨_, _, _, _, _, _, _, _, _, _, _, _, _, rfl⟩

theorem removeHead_engineOnly : EngineOnly s s.removeHead := by
  obtain ⟨_, h⟩ := removeHead_only s
  rw [h]
  exact ⟨_, _, _, _, _, _, _, _, _, _, _, _, _, rfl⟩

theorem setWait_engineOnly (r : WaitReason) (b : Bool) : EngineOnly s (s.setWait r b) :=
  ⟨_, _, _, _, _, _, _, _, _, _, _, _, _, rfl⟩

theorem serveMover_engineOnly : EngineOnly s (s.serveMover m) := by
  unfold State.serveMover
  dsimp only
  split
  · split
    · exact ((appendRecord_engineOnly s _).trans (setMover_portOnly _ m _).engine).trans
        (returnRefs_refsOnly _ _).engine
    · exact .refl s
  · exact .refl s

theorem report_engineOnly (o : Outcome) : EngineOnly s (s.report e o) :=
  ((appendRecord_engineOnly s _).trans (removeHead_engineOnly _)).trans (returnRefs_refsOnly _ e).engine

theorem issue_engineOnly : EngineOnly s (s.issue e m) := by
  unfold State.issue
  dsimp only
  refine ((removeHead_engineOnly s).trans (setMover_portOnly s.removeHead m (Mover.take e)).engine).trans ?_
  split
  · exact (startUnit_portOnly _ m).engine
  · exact (bind_portOnly _ m _).engine

end Engine

/-- What an examination of the head can do, packaged once: a property that a report of the head, an issue of the head and
a wait keep is kept by the whole examination. -/
theorem examineHead_keeps (P : State → Prop)
    (report : ∀ s e q o, P s → s.dispatcher.halted = false → s.queue = e :: q → s.decision e = .report o →
      s.hasSlot = true → P (s.report e o))
    (issue : ∀ s e q m, P s → s.dispatcher.halted = false → s.queue = e :: q → s.decision e = .issue m →
      P (s.issue e m))
    (waits : ∀ s r b, P s → s.dispatcher.halted = false →
      (r = .space ↔ b = true) → (b = true → s.hasSlot = false) → P (s.setWait r b)) :
    ∀ (fuel : Nat) (s : State), P s → P (State.examineHead fuel s)
  | 0, _, h => h
  | fuel + 1, s, h => by
    unfold State.examineHead
    split
    · exact h
    · rename_i hr
      have hr : s.dispatcher.halted = false := by simpa using hr
      split
      · exact waits s _ _ h hr (by simp) (by simp)
      · rename_i e q hq
        split
        · rename_i o ho
          split
          · rename_i hs
            exact examineHead_keeps P report issue waits fuel _ (report s e q o h hr hq ho hs)
          · rename_i hs
            exact waits s _ _ h hr (by simp) (fun _ => by simpa using hs)
        · rename_i r hd
          refine waits s _ _ h hr ?_ (by simp)
          constructor
          · rintro rfl
            exact absurd hd (decision_not_space s e)
          · simp
        · rename_i m hm
          exact examineHead_keeps P report issue waits fuel _ (issue s e q m h hr hq hm)
where
  decision_not_space (s : State) (e : Entry) : s.decision e ≠ .hold .space := by
    unfold State.decision
    repeat' split
    all_goals simp

theorem examine_engineOnly (s : State) : EngineOnly s s.examine :=
  examineHead_keeps (EngineOnly s)
    (fun t e _ o h _ _ _ _ => h.trans (report_engineOnly t e o))
    (fun t e _ m h _ _ _ => h.trans (issue_engineOnly t m e))
    (fun t r b h _ _ _ => h.trans (setWait_engineOnly t r b)) _ s (.refl s)

theorem settle_engineOnly (s : State) : EngineOnly s s.settle :=
  ((serveMover_engineOnly s 0).trans (serveMover_engineOnly _ 1)).trans (examine_engineOnly _)

/-- What the postings and the examination of one event can do, packaged once. -/
theorem settle_keeps (P : State → Prop)
    (serve : ∀ s m, P s → P (s.serveMover m))
    (report : ∀ s e q o, P s → s.dispatcher.halted = false → s.queue = e :: q → s.decision e = .report o →
      s.hasSlot = true → P (s.report e o))
    (issue : ∀ s e q m, P s → s.dispatcher.halted = false → s.queue = e :: q → s.decision e = .issue m →
      P (s.issue e m))
    (waits : ∀ s r b, P s → s.dispatcher.halted = false →
      (r = .space ↔ b = true) → (b = true → s.hasSlot = false) → P (s.setWait r b))
    (s : State) (h : P s) : P s.settle :=
  examineHead_keeps P report issue waits _ _ (serve _ 1 (serve s 0 h))

/-! ### The end of units and transfers -/

section Ends

variable (s : State) (m : MoverIndex)

theorem endTransfer_engineOnly (o : Outcome) (f : Option FaultItem) : EngineOnly s (s.endTransfer m o f) :=
  (finish_portOnly s m o f).engine.trans (settle_engineOnly _)

theorem unitComplete_engineOnly : EngineOnly s (s.unitComplete m) := by
  unfold State.unitComplete
  dsimp only
  split
  · exact .refl s
  · rename_i t _
    refine (setMover_portOnly s m ((s.mover m).counted (s.unitElements t (s.mover m).position))).engine.trans ?_
    split
    · exact endTransfer_engineOnly _ m _ _
    · split
      · exact endTransfer_engineOnly _ m _ _
      · split
        · exact ((setMover_portOnly _ m _).trans (startUnit_portOnly _ m)).engine
        · split
          · exact endTransfer_engineOnly _ m _ _
          · exact ((setMover_portOnly _ m _).trans (burstContinues_portOnly _ m _)).engine

theorem startWrite_engineOnly : EngineOnly s (s.startWrite m) := by
  unfold State.startWrite
  dsimp only
  split
  · exact .refl s
  · rename_i t _
    refine (setMover_portOnly s m ((s.mover m).compared
      ((elementsOf (s.elementBytes t) (s.mover m).buffer).countP (s.skips t)))).engine.trans ?_
    split
    · exact unitComplete_engineOnly _ m
    · exact (launch_portOnly _ m _).engine

theorem continueSide_engineOnly : EngineOnly s (s.continueSide m) := by
  unfold State.continueSide
  dsimp only
  split
  · exact (launch_portOnly s m _).engine
  · split
    · exact startWrite_engineOnly s m
    · exact unitComplete_engineOnly s m

theorem captureFault_engineOnly (r : FaultRecord) : EngineOnly s (s.captureFault r) := by
  unfold State.captureFault
  split
  · exact .refl s
  · exact ⟨_, _, _, _, _, _, _, _, _, _, _, _, _, rfl⟩

theorem moverFault_engineOnly (x : FaultItem) : EngineOnly s (s.moverFault m x) := by
  unfold State.moverFault
  split
  · exact .refl s
  · exact (captureFault_engineOnly s _).trans (endTransfer_engineOnly _ m _ _)

theorem setWaiting_engineOnly (r : Requester) (b : Option Burst) : EngineOnly s (s.setWaiting r b) := by
  cases r
  · exact (setMover_portOnly s _ _).engine
  · exact ⟨_, _, _, _, _, _, _, _, _, _, _, _, _, rfl⟩

theorem eitherOrder_engineOnly (t : State) : EngineOnly t (s.eitherOrder t) := by
  unfold State.eitherOrder
  split
  · split
    · exact .refl t
    · rename_i g r _ _ _ _ b _
      have k (u : State) : EngineOnly u ({ u with rotation := s.rotation }.grantTo r b) :=
        ⟨_, _, _, _, _, _, _, _, _, _, _, _, _, rfl⟩
      have h : EngineOnly t { t with draws := t.draws + 1 } := ⟨_, _, _, _, _, _, _, _, _, _, _, _, _, rfl⟩
      dsimp only
      split
      · exact (h.trans ((setWaiting_engineOnly _ r none).trans (setWaiting_engineOnly _ g.owner (some g.burst)))).trans (k _)
      · exact h
  · exact .refl t

theorem endFromLine_engineOnly (n : LineIndex) (o : Outcome) : EngineOnly s (s.endFromLine n o) := by
  unfold State.endFromLine
  split
  · exact .refl s
  · exact (endTransfer_engineOnly s _ o none).trans (eitherOrder_engineOnly s _)

end Ends

/-! ### The list reader and the port -/

section Reader

variable (s : State)

theorem requestBurst_engineOnly (r : Requester) (b : Burst) : EngineOnly s (s.requestBurst r b) := by
  unfold State.requestBurst
  split
  · exact (grantTo_portOnly s r b).engine
  · exact setWaiting_engineOnly s r _

theorem releasePort_engineOnly : EngineOnly s s.releasePort := by
  unfold State.releasePort
  dsimp only
  have h : EngineOnly s { s with grant := none } := ⟨_, _, _, _, _, _, _, _, _, _, _, _, _, rfl⟩
  split
  · exact h
  · split
    · exact h
    · exact (h.trans (setWaiting_engineOnly _ _ _)).trans (grantTo_portOnly _ _ _).engine

theorem endList_engineOnly (w : EndReason) (r : Option Reason) : EngineOnly s (s.endList w r) :=
  ⟨_, _, _, _, _, _, _, _, _, _, _, _, _, rfl⟩

theorem disown_engineOnly (r : Requester) : EngineOnly s (s.disown r) := by
  unfold State.disown
  split
  · split
    · exact ⟨_, _, _, _, _, _, _, _, _, _, _, _, _, rfl⟩
    · exact .refl s
  · exact .refl s

theorem stopList_engineOnly : EngineOnly s s.stopList := by
  unfold State.stopList
  split
  · exact .refl s
  all_goals exact (endList_engineOnly s _ _).trans (disown_engineOnly _ _)

theorem enqueue_engineOnly (e : Entry) : EngineOnly s (s.enqueue e) := by
  obtain ⟨_, _, _, h⟩ := addRefs_refsOnly s e
  unfold State.enqueue
  rw [h]
  exact ⟨_, _, _, _, _, _, _, _, _, _, _, _, _, rfl⟩

theorem examineIf_engineOnly (b : Bool) : EngineOnly s (s.examineIf b) := by
  cases b
  · exact .refl s
  · exact examine_engineOnly s

theorem requestFetch_engineOnly : EngineOnly s s.requestFetch :=
  requestBurst_engineOnly s _ _

theorem enterFetch_engineOnly (a : Word) : EngineOnly s (s.enterFetch a) :=
  ⟨_, _, _, _, _, _, _, _, _, _, _, _, _, rfl⟩

theorem setReader_engineOnly (r : ListReader) : EngineOnly s { s with reader := r } :=
  ⟨_, _, _, _, _, _, _, _, _, _, _, _, _, rfl⟩

theorem present_engineOnly (record : Vector Word 8) : EngineOnly s (s.present record) := by
  unfold State.present
  split
  · exact setReader_engineOnly s _
  · exact endList_engineOnly s _ _
  · rename_i e _
    dsimp only
    refine (enqueue_engineOnly s e).trans ((setReader_engineOnly (s.enqueue e)
      { (s.enqueue e).reader with count := (s.enqueue e).reader.count + 1 }).trans ?_)
    split
    · exact (endList_engineOnly _ _ _).trans (examineIf_engineOnly _ _)
    · exact (enterFetch_engineOnly _ _).trans ((examineIf_engineOnly _ _).trans (requestFetch_engineOnly _))

theorem presentAgain_engineOnly : EngineOnly s s.presentAgain := by
  unfold State.presentAgain
  split
  · split
    · exact .refl s
    · exact (present_engineOnly s _).trans (eitherOrder_engineOnly s _)
  · exact .refl s

theorem takeData_engineOnly (r : Requester) (w : Bool) (b : Beat) (d : Word) : EngineOnly s (s.takeData r w b d) := by
  unfold State.takeData
  split
  · exact .refl s
  · split
    · exact (setMover_portOnly s _ _).engine
    · exact setReader_engineOnly s _

theorem burstDone_engineOnly (r : Requester) : EngineOnly s (s.burstDone r) := by
  cases r
  · exact continueSide_engineOnly s _
  · exact present_engineOnly s _

theorem burstFailed_engineOnly (r : Requester) (w : Bool) (b : Beat) : EngineOnly s (s.burstFailed r w b) := by
  cases r
  · exact moverFault_engineOnly s _ _
  · exact endList_engineOnly s _ _

theorem completeBurst_engineOnly (g : Grant) : EngineOnly s (s.completeBurst g) := by
  unfold State.completeBurst
  dsimp only
  split
  · exact ((releasePort_engineOnly s).trans (burstDone_engineOnly _ _)).trans (eitherOrder_engineOnly _ _)
  · exact releasePort_engineOnly s

theorem answerBeat_engineOnly (d : Word) : EngineOnly s (s.answerBeat d) := by
  unfold State.answerBeat
  split
  · exact .refl s
  · rename_i g _
    split
    · exact .refl s
    · rename_i b rest _
      have h : EngineOnly s (if g.live then s.takeData g.owner g.burst.write b d else s) := by
        split
        · exact takeData_engineOnly s _ _ _ _
        · exact .refl s
      dsimp only
      generalize (if g.live then s.takeData g.owner g.burst.write b d else s) = t at h ⊢
      refine h.trans ?_
      split
      · exact completeBurst_engineOnly _ _
      · exact ⟨_, _, _, _, _, _, _, _, _, _, _, _, _, rfl⟩

theorem failBeat_engineOnly : EngineOnly s s.failBeat := by
  unfold State.failBeat
  split
  · exact .refl s
  · rename_i g _
    split
    · exact .refl s
    · rename_i b _ _
      dsimp only
      split
      · exact (releasePort_engineOnly s).trans (burstFailed_engineOnly _ _ _ _)
      · exact releasePort_engineOnly s

end Reader

end Sys2Proof.Machine
end

