-- ==== Sys2Proof/Laws/Ops.lean ====
section
/-! SUPPORT. Small lemmas of the shared operations: index operands, the reset gate, the reads of one surface, mover or line
after an update of another, the line of a binding, an admission or a burst end, the surface of a reference returned, and the
arbiter's either-order choice. -/

namespace Sys2Proof.Machine

/-! ### Index operands -/

theorem surfaceIndex_of_lt {n : Nat} (h : n < 24) : surfaceIndex n = some ⟨n, h⟩ := by
  simp [surfaceIndex, h]

theorem surfaceIndex_of_ge {n : Nat} (h : 24 ≤ n) : surfaceIndex n = none := by
  simp [surfaceIndex, Nat.not_lt.mpr h]

@[simp] theorem surfaceIndex_operand (i : SurfaceIndex) : surfaceIndex (BitVec.ofNat 8 i.val).toNat = some i := by
  have h : (BitVec.ofNat 8 i.val).toNat = i.val := by
    rw [BitVec.toNat_ofNat]
    exact Nat.mod_eq_of_lt (by omega)
  rw [h]
  exact surfaceIndex_of_lt i.isLt

/-! ### The reset gate -/

theorem unlessReset_high {s : State} (h : s.inReset = false) (t : State) : s.unlessReset t = t := by
  simp [State.unlessReset, h]

theorem unlessReset_low {s : State} (h : s.inReset = true) (t : State) : s.unlessReset t = s := by
  simp [State.unlessReset, h]

/-! ### One element of a table after an update -/

section Tables

variable (s : State)

@[simp] theorem setMover_mover (m : MoverIndex) (v : Mover) : (s.setMover m v).mover m = v := by
  simp [State.setMover, State.mover]

theorem setMover_mover_ne {m k : MoverIndex} (h : k ≠ m) (v : Mover) : (s.setMover m v).mover k = s.mover k := by
  simp only [State.setMover, State.mover, Fin.getElem_fin]
  exact Vector.getElem_set_ne _ _ fun e => h (Fin.ext e.symm)

@[simp] theorem setLine_line (n : LineIndex) (v : PacingLine) : (s.setLine n v).line n = v := by
  simp [State.setLine, State.line]

theorem setLine_line_ne {n k : LineIndex} (h : k ≠ n) (v : PacingLine) : (s.setLine n v).line k = s.line k := by
  simp only [State.setLine, State.line, Fin.getElem_fin]
  exact Vector.getElem_set_ne _ _ fun e => h (Fin.ext e.symm)

@[simp] theorem setSurface_surface (i : SurfaceIndex) (v : Surface) : (s.setSurface i v).surface i = v := by
  simp [State.setSurface, State.surface]

theorem setSurface_surface_ne {i k : SurfaceIndex} (h : k ≠ i) (v : Surface) :
    (s.setSurface i v).surface k = s.surface k := by
  simp only [State.setSurface, State.surface, Fin.getElem_fin]
  exact Vector.getElem_set_ne _ _ fun e => h (Fin.ext e.symm)

@[simp] theorem setMover_line (m : MoverIndex) (v : Mover) (n : LineIndex) : (s.setMover m v).line n = s.line n := rfl
@[simp] theorem setMover_surface (m : MoverIndex) (v : Mover) (i : SurfaceIndex) :
    (s.setMover m v).surface i = s.surface i := rfl
@[simp] theorem setLine_mover (n : LineIndex) (v : PacingLine) (m : MoverIndex) : (s.setLine n v).mover m = s.mover m := rfl
@[simp] theorem setLine_surface (n : LineIndex) (v : PacingLine) (i : SurfaceIndex) :
    (s.setLine n v).surface i = s.surface i := rfl
@[simp] theorem setSurface_mover (i : SurfaceIndex) (v : Surface) (m : MoverIndex) :
    (s.setSurface i v).mover m = s.mover m := rfl
@[simp] theorem setSurface_line (i : SurfaceIndex) (v : Surface) (n : LineIndex) :
    (s.setSurface i v).line n = s.line n := rfl

end Tables

/-! ### One line after the operations of its transfer -/

section Lines

variable (s : State) (m : MoverIndex) (n : LineIndex)

theorem requestBurst_lines (r : Requester) (b : Burst) : (s.requestBurst r b).lines = s.lines := by
  unfold State.requestBurst
  cases s.grant
  · rfl
  · cases r <;> rfl

theorem launch_lines (bursts : List Burst) : (s.launch m bursts).lines = s.lines := by
  cases bursts
  · rfl
  · exact requestBurst_lines _ _ _

/-- A unit that starts changes no line. -/
theorem startUnit_lines : (s.startUnit m).lines = s.lines := by
  unfold State.startUnit
  dsimp only
  split
  · rfl
  · split <;> exact launch_lines _ m _

/-- The line of an admission (R102). -/
@[simp] theorem admitBurst_line : (s.admitBurst n m).line n = (s.line n).admitting :=
  (line_congr (startUnit_lines _ m) n).trans (setLine_line s n _)

/-- The line of a wait. -/
@[simp] theorem waitIn_line (st : LineState) : (s.waitIn n m st).line n = (s.line n).inState st :=
  setLine_line s n _

/-- The line of a binding (R101). -/
theorem bind_line :
    (s.bind n m).line n =
      if (s.line n).request then ((s.line n).bindTo m).admitting
      else ((s.line n).bindTo m).loadTimer.inState .wait := by
  unfold State.bind
  dsimp only
  split
  · rw [admitBurst_line, setLine_line]
  · rw [waitIn_line, setLine_line]

/-- The line of a burst end after which the transfer continues, by the four rows of R103. -/
theorem burstContinues_line :
    (s.burstContinues n m).line n =
      match (s.line n).latchedMode, (s.line n).request with
      | .demand, true => (s.line n).burstOver.admitting
      | .step, true => (s.line n).burstOver.inState .waitLow
      | _, false => (s.line n).burstOver := by
  unfold State.burstContinues
  dsimp only
  rw [setLine_line]
  cases hm : (s.line n).latchedMode <;> cases hr : (s.line n).request <;>
    simp [PacingLine.burstOver, PacingLine.loadTimer, PacingLine.inState, hm, hr]

end Lines

/-! ### One reference returned -/

section Returned

variable (s : State) (i : SurfaceIndex)

@[simp] theorem free_surface : (s.free i).surface i = { s.surface i with state := .free } :=
  setSurface_surface s i _

theorem free_surface_ne {k : SurfaceIndex} (h : k ≠ i) : (s.free i).surface k = s.surface k :=
  setSurface_surface_ne s h _

/-- The surface whose reference is returned: FREE when a DRAINING one falls to 0 (R17). -/
theorem returnRef_surface :
    (s.returnRef i).surface i =
      { s.surface i with
        refcount := (s.surface i).refcount - 1
        state := if (s.surface i).state = .draining ∧ (s.surface i).refcount ≤ 1 then .free else (s.surface i).state } := by
  unfold State.returnRef
  by_cases hd : (s.surface i).state = .draining <;> by_cases hr : (s.surface i).refcount ≤ 1 <;>
    simp [hd, hr, Nat.sub_eq_zero_iff_le]

/-- Every other surface is as before. -/
theorem returnRef_surface_ne {k : SurfaceIndex} (h : k ≠ i) : (s.returnRef i).surface k = s.surface k := by
  unfold State.returnRef
  dsimp only
  split
  · exact (free_surface_ne _ i h).trans (setSurface_surface_ne s h _)
  · exact setSurface_surface_ne s h _

end Returned

/-! ### The arbiter -/

/-- With a burst in progress before the event, its requests wait: there is no choice. -/
theorem eitherOrder_of_busy {s : State} (h : s.grant ≠ none) (t : State) : s.eitherOrder t = t := by
  unfold State.eitherOrder
  split
  · rename_i hg _ _
    exact absurd hg h
  · rfl

/-- With nobody left waiting, the event brought one request at most: there is no choice. -/
theorem eitherOrder_of_quiet (s : State) {t : State} (h : t.firstWaiting = none) : s.eitherOrder t = t := by
  unfold State.eitherOrder
  split
  · rename_i hr
    rw [h] at hr
    cases hr
  · rfl

/-- The port stays free where an event leaves it free: there is no choice. -/
theorem eitherOrder_of_free (s : State) {t : State} (h : t.grant = none) : s.eitherOrder t = t := by
  unfold State.eitherOrder
  split
  · rename_i hg _
    rw [h] at hg
    cases hg
  · rfl

end Sys2Proof.Machine
end

