-- ==== Sys2Proof/Tests/Slice0.lean ====
section
/-! SUPPORT. The author's tests: what WellFormed refuses, one small step per command with the result that the spec gives, and
for every statement with hypotheses a state that meets them. -/

set_option synthInstance.maxSize 4000
set_option synthInstance.maxHeartbeats 400000

namespace Sys2Proof.Tests

open Sys2Proof.Machine Sys2Proof.Safety

/-! ### WellFormed, and the word writes of the window -/

theorem test_wellFormed_refuses_known_code : (Instr.unknownCommand 1 0).wellFormed = false := by decide
theorem test_wellFormed_refuses_own_row : (Instr.registerWrite 0x07 5).wellFormed = false := by decide
theorem test_wellFormed_refuses_word_access : (Instr.nonWordAccess .read 0 15).wellFormed = false := by decide

/-- The DEFINE of index 6 is the CONTROL word 0x0000_0601 (section 10.1). -/
theorem test_word_define : decodeWordWrite 0x01 0x00000601 = .define 6 := by decide
theorem test_word_abort_tag : decodeWordWrite 0x01 0x00006005 = .abortTag 0x60 := by decide
theorem test_word_engine_reset : decodeWordWrite 0x01 0x00000008 = .engineReset := by decide
theorem test_word_unknown : decodeWordWrite 0x01 0x0000FF09 = .unknownCommand 9 0xFF := by decide
theorem test_word_post : decodeWordWrite 0x10 0x12345678 = .post := by decide
theorem test_word_thresholds : decodeWordWrite 0x06 0x801 = .registerWrite 0x06 0x801 := by decide
theorem test_byte_write : decodeWindowWrite 0x10 0b0111 0 = .nonWordAccess (.write 0) 0x10 0b0111 := by decide

/-! ### Small states -/

/-- The state after a command that has one. -/
def after (i : Instr) (s : State) : State :=
  match exec i s with
  | .next t => t
  | .fault _ | .refused _ => s

/-- RESETn low. -/
def low : State := { State.reset with inReset := true, divider := none }

/-- A DEFINED line of 16 one-byte elements at 0x1000, generation 1. -/
def lineSurface : Surface :=
  { Surface.reset with
    state := .defined, generation := 1, shape := some .line, elementSize := 1, readable := true, writable := true
    base := 0x1000, xExtent := 16, yExtent := 1, zExtent := 1 }

/-- A DEFINED port of 4-byte elements at 0x4000, bursts of 4, on line 0. -/
def portSurface : Surface :=
  { Surface.reset with
    state := .defined, generation := 1, shape := some .port, elementSize := 4, readable := true, writable := true
    base := 0x4000, burst := 4, binding := some 0 }

/-- Surface 0 is the line, surface 1 the port. -/
def board : State := (State.reset.setSurface 0 lineSurface).setSurface 1 portSurface

/-- A FILL of all 16 elements of surface 0, tag 5, SIGNAL. -/
def fillLine : Entry :=
  { kind := .fill, tag := 5, clip := false, keyed := false, signal := true, src := none
    dst := some { surface := 0, origin := { x := 0, y := 0, z := 0 }, footprint := some { lo := 0x1000, hi := 0x100F } }
    fill := 0x11, size := { x := 16, y := 1, z := 1 }, requested := 16, clipped := 0, descending := false
    line := none, cancelled := false }

/-- A FILL of 8 elements into the port, two bursts, tag 6. -/
def fillPort : Entry :=
  { kind := .fill, tag := 6, clip := false, keyed := false, signal := false, src := none
    dst := some { surface := 1, origin := { x := 0, y := 0, z := 0 }, footprint := some { lo := 0x4000, hi := 0x4003 } }
    fill := 0x22222222, size := { x := 8, y := 1, z := 1 }, requested := 8, clipped := 0, descending := false
    line := some 0, cancelled := false }

/-- A line of `fillPort` in the middle of its first burst, DEMAND, PREQn active. -/
def bursting : PacingLine :=
  { PacingLine.reset with state := .burst, bound := some 0, latchedMode := .demand, request := true, pulses := 1 }

/-- A FENCE, tag 7. -/
def fence : Entry :=
  { kind := .fence, tag := 7, clip := false, keyed := false, signal := false, src := none, dst := none, fill := 0
    size := { x := 0, y := 0, z := 0 }, requested := 0, clipped := 0, descending := false, line := none, cancelled := false }

/-- Four 4-byte beats of a fill of the line. -/
def fillBeat (a : Word) : Beat := { address := a, enables := 15, bytes := [0x11, 0x11, 0x11, 0x11] }

def fillBurst (beats : List Beat) : Burst :=
  { form := .incrementing, write := true, start := 0x1000, length := 4, beats := beats }

/-- Mover 0 runs `fillLine`; the beats of its burst that are left are given. -/
def filling (beats : List Beat) : State :=
  { (board.setSurface 0 { lineSurface with refcount := 1 }).setMover 0
      { Mover.idle with state := .run, transfer := some fillLine, side := .write } with
    grant := some { owner := .mover 0, live := true, burst := fillBurst beats }
    rotation := [.mover 1, .reader, .mover 0] }

/-- A volume of 2 by 2 by 2 elements of 4 bytes, with a key. -/
def volumeSurface : Surface :=
  { Surface.reset with
    state := .defined, generation := 1, shape := some .volume, elementSize := 4, readable := true, writable := true
    base := 0x8000, xExtent := 2, yExtent := 2, zExtent := 2, rowPitch := 8, slicePitch := 16, key := some 5 }

/-- A KEYED MOVE of one slice of the volume (surface 2) into the port, one burst, tag 8. -/
def keyedMove : Entry :=
  { fillPort with
    kind := .move, tag := 8, keyed := true, fill := 0, size := { x := 2, y := 2, z := 1 }, requested := 4
    src := some { surface := 2, origin := { x := 0, y := 0, z := 0 }, footprint := some { lo := 0x8000, hi := 0x800F } } }

/-- A MOVE of four elements of the port into the slice of the volume, tag 9. -/
def portMove : Entry :=
  { keyedMove with tag := 9, keyed := false, src := keyedMove.dst, dst := keyedMove.src }

/-- Mover 0 runs a transfer; the last beat of its read side is in progress, and three elements equal to the key of the volume
have arrived. -/
def reading (t : Entry) : State :=
  { ((board.setSurface 2 volumeSurface).setLine 0 bursting).setMover 0
      { Mover.idle with
        state := .run, transfer := some t, side := .read, buffer := [5, 0, 0, 0, 5, 0, 0, 0, 5, 0, 0, 0] } with
    grant := some {
      owner := .mover 0, live := true
      burst := { form := .incrementing, write := false, start := 0x8000, length := 4
                 beats := [{ address := 0x800C, enables := 15, bytes := [] }] } }
    rotation := [.mover 1, .reader, .mover 0] }

/-- The dispatcher in HALT after a fault of mover 1. -/
def halt : Dispatcher :=
  { halted := true, waitReason := .none, slotRequest := false
    fault := some { mover := 1, tag := 9, kind := .fill, item := { address := 0x9000, side := .write } } }

/-- `board` with a fence in the queue behind a running fill. -/
def waiting : State :=
  { filling [fillBeat 0x100C] with
    queue := [fence]
    dispatcher := { Dispatcher.reset with waitReason := .fence } }

/-- Mover 0 in PACE with `fillPort`, line 0 in WAIT with 3 ticks left. -/
def pacing : State :=
  ((board.setSurface 1 { portSurface with refcount := 1 }).setMover 0
      { Mover.idle with state := .pace, transfer := some fillPort }).setLine 0
    { PacingLine.reset with state := .wait, bound := some 0, timeout := 3, latchedTimeout := 3, timerRunning := true
                            timerCount := 3 }

/-- A record of mover 0. -/
def record (n : BitVec 16) : Completion :=
  { tag := 5, kind := .fill, outcome := .done, mover := some 0, signal := false, sequence := n, moved := 16, skipped := 0
    clipped := 0, fault := none }

/-- A full completion queue. -/
def fullRecords : List Completion := (List.range 32).map fun i => record (BitVec.ofNat 16 i)

/-- The record of a FENCE with tag 7, as a list holds it, its link word LAST. -/
def fenceRecord : Vector Word 8 := #v[0x00000703, 0, 0, 0, 0, 0, 0, 1]

/-- The list reader with a burst of its fetch in progress and seven words received. -/
def fetching (words : List Word) : State :=
  { board with
    reader := { ListReader.reset with state := .fetch, current := 0x2000, fetched := words }
    rotation := [.mover 0, .mover 1, .reader]
    grant := some {
      owner := .reader, live := true
      burst := { form := .incrementing, write := false, start := 0x2000, length := 8
                 beats := [{ address := 0x201C, enables := 15, bytes := [] }] } } }

/-! ### One step per command, with the spec's result -/

/-- Table 10-1: the staging of the display plane; DEFINE of a FREE entry returns 0x0000_0101. -/
def displayStaging : Vector Word 7 := #v[0x00000312, 0x00200000, 0x006400C8, 0, 0x00000100, 0, 0]

theorem test_define :
    (after (.define 6) { State.reset with surfaceStaging := displayStaging }).readRegister 0x02 = 0x00000101 := by decide
theorem test_define_index :
    (after (.define 24) State.reset).controlResult.code = .index := by decide
theorem test_release :
    let t := after (.release 0) board
    (t.surface 0).state = .free ∧ t.freedSet = 1 ∧ t.causes = 0 := by decide
theorem test_release_deferred :
    let t := after (.release 0) (filling [])
    (t.surface 0).state = .draining ∧ t.controlResult = { code := .deferred, value := 1 } := by decide
theorem test_resume :
    let t := after .resume { board with dispatcher := halt, queue := [fence] }
    t.dispatcher = Dispatcher.reset ∧ t.completions.length = 1 := by decide
theorem test_flush :
    let t := after .flush { filling [fillBeat 0x1000] with queue := [fence, fence] }
    t.queue = [] ∧ t.completions = [] ∧ t.controlResult.value = 2 ∧ (t.mover 0).state = .run := by decide
theorem test_abort_tag :
    let t := after (.abortTag 5) (filling [fillBeat 0x1000])
    (t.mover 0).stop = true ∧ t.controlResult.value = 256 := by decide
/-- R150: a marked FENCE at the head is reported ABORTED in the event, with the fill before it still in flight. A head that
waits with HAZARD on a transfer in flight, marked at a full completion queue, waits with SPACE (step 1 of Table 6-4). -/
theorem test_abort_tag_head :
    let t := after (.abortTag 7) waiting
    let behind := { filling [fillBeat 0x100C] with
      queue := [{ fillLine with tag := 8 }], completions := fullRecords
      dispatcher := { Dispatcher.reset with waitReason := .hazard } }
    let u := after (.abortTag 8) behind
    t.completions.map (fun r => (r.outcome, r.kind, r.mover)) = [(.aborted, .fence, none)] ∧ t.queue = []
      ∧ (t.mover 0).state = .run
      ∧ behind.queue.map behind.decision = [.hold .hazard] ∧ u.queue.map u.decision = [.report .aborted]
      ∧ u.dispatcher.waitReason = .space ∧ u.dispatcher.slotRequest = true ∧ (u.mover 0).state = .run := by decide
theorem test_list_start :
    (after .listStart { State.reset with listAddress := 0x2000 }).reader.state = .fetch := by decide
theorem test_list_start_misaligned :
    (after .listStart { State.reset with listAddress := 0x2010 }).controlResult.code = .badAddress := by decide
theorem test_list_stop :
    let t := after .listStop (fetching [])
    t.reader.endReason = .stopped ∧ t.causeSet .list = true ∧ t.grant.isSome = true := by decide
theorem test_engine_reset :
    let t := after .engineReset { filling [fillBeat 0x1000] with sequence := 7 }
    (t.mover 0).state = .idle ∧ t.sequence = 0 ∧ (t.surface 0).refcount = 0 ∧ (t.surface 0).state = .defined := by decide
theorem test_unknown : (after (.unknownCommand 9 0) State.reset).controlResult.code = .unknown := by decide

/-- The FILL of the whole line, surface 0, generation 1, tag 5. -/
def stagedFill : Vector Word 7 := #v[0x00000502, 0x01000000, 0x11, 0, 0, 0x00010010, 1]

theorem test_post_fill :
    let t := after .post { board with commandStaging := stagedFill }
    (t.mover 0).state = .run ∧ t.postResult = { code := .accepted, tag := 5, count := 1 } ∧ (t.surface 0).refcount = 1
      ∧ t.busBeat = some (.write, fillBeat 0x1000) := by decide
theorem test_post_stale :
    (after .post { board with commandStaging := stagedFill.set 1 0 }).postResult
      = { code := .refused .stale, tag := 5, count := 0 } := by decide
theorem test_pop :
    (after .completionPop { State.reset with completions := [record 0, record 1] }).completions = [record 1] := by decide
theorem test_pop_empty : (after .completionPop State.reset).badAccess = true := by decide
theorem test_int_cause_write :
    (after (.intCauseWrite 0x0A) { State.reset with causes := 0x1F }).causes = 0x15 := by decide
theorem test_int_enable_write :
    let t := after (.intEnableWrite 0x3A) { State.reset with causes := 0x02 }
    t.enables = 0x3A ∧ t.intActive = true := by decide
theorem test_freed_set_write :
    (after (.freedSetWrite 0x800001) { State.reset with freedSet := 0x800003 }).freedSet = 2 := by decide
theorem test_status_write :
    (after (.statusWrite 0x80000000) { State.reset with badAccess := true }).badAccess = false := by decide
theorem test_time_base_write :
    (after (.timeBaseWrite 1000) State.reset).timeBase = 1000 ∧ (after (.timeBaseWrite 0) State.reset).timeBase = 1 := by decide
/-- PACING_CONFIG 0 with 0x0001_0032: mode DEMAND, timeout 50 ticks (section 10.1). -/
theorem test_pacing_config :
    let t := after (.registerWrite 0x32 0x00010032) State.reset
    (t.line 0).mode = .demand ∧ (t.line 0).timeout = 50 := by decide
theorem test_read_only_write : after (.registerWrite 0x00 0xFFFFFFFF) State.reset = State.reset := by decide
theorem test_non_word_access :
    after (.nonWordAccess (.write 1) 0x10 0b0011) State.reset = { State.reset with badAccess := true } := by decide
theorem test_full_reset :
    let t := after .fullReset { filling [fillBeat 0x1000] with causes := 5, timeBase := 7 }
    t.inReset = true ∧ t.divider = none ∧ t.causes = 0 ∧ t.timeBase = 100 ∧ t.grant = none := by decide
theorem test_reset_release :
    let t := after .resetRelease low
    t.inReset = false ∧ t.divider = some 100 := by decide
theorem test_preq_active :
    let t := after (.preqActive 0) pacing
    (t.line 0).state = .burst ∧ (t.line 0).timerRunning = false ∧ t.packActive 0 = true ∧ (t.mover 0).state = .run := by decide
theorem test_preq_inactive :
    let s := pacing.setLine 0 { pacing.line 0 with state := .waitLow, request := true }
    ((after (.preqInactive 0) s).line 0).state = .wait := by decide
theorem test_pend_fall :
    let t := after (.pendFall 0) pacing
    t.completions.map (fun r => (r.outcome, r.moved)) = [(.short, 0)] ∧ (t.line 0).state = .idle := by decide
theorem test_tick : ((after .tick pacing).line 0).timerCount = 2 := by decide
theorem test_timer_expiry :
    let s := pacing.setLine 0 { pacing.line 0 with timerCount := 0 }
    (after (.timerExpiry 0) s).completions.map Completion.outcome = [.timeout] := by decide
theorem test_beat_answered :
    let t := after (.beatAnswered 0) (filling [fillBeat 0x100C])
    t.completions.map (fun r => (r.outcome, r.moved, r.sequence)) = [(.done, 16, 0)] ∧ t.grant = none
      ∧ t.causeSet .signal = true := by decide
/-- R92, R122: at a full completion queue the mover waits in POST. -/
theorem test_end_full_queue :
    let t := after (.beatAnswered 0) { filling [fillBeat 0x100C] with completions := fullRecords }
    (t.mover 0).state = .post ∧ (t.mover 0).outcome = some .done ∧ t.completions.length = 32
      ∧ (t.surface 0).refcount = 1 := by decide
/-- R17, R20: the posting that returns the last reference of a DRAINING surface frees it. -/
theorem test_end_frees_surface :
    let s := filling [fillBeat 0x100C]
    let t := after (.beatAnswered 0) (s.setSurface 0 { s.surface 0 with state := .draining })
    (t.surface 0).state = .free ∧ t.freedSet = 1 ∧ t.causeSet .freed = true := by decide
/-- R103, DEMAND with PREQn active: PACKn goes inactive and active again, a new pulse, and the next burst is admitted. -/
theorem test_demand_bursts_pulse :
    let s := ((filling [fillBeat 0x100C]).setMover 0
      { Mover.idle with state := .run, transfer := some fillPort, side := .write }).setLine 0 bursting
    let t := after (.beatAnswered 0) s
    (t.line 0).pulses = 2 ∧ t.packActive 0 = true ∧ (t.mover 0).moved = 4 := by decide
/-- R80, R85: of four elements the one that is not equal to the key is written to the port. -/
theorem test_keyed_port_write :
    let t := after (.beatAnswered 6) (reading keyedMove)
    (t.mover 0).matched = 3 ∧ t.busBeat = some (.write, { address := 0x4000, enables := 15, bytes := [6, 0, 0, 0] }) := by
  decide
/-- R85: four elements equal to the key: no access to the port, and the unit is skipped whole. -/
theorem test_keyed_port_skips :
    (after (.beatAnswered 5) (reading keyedMove)).completions.map (fun r => (r.outcome, r.moved, r.skipped))
      = [(.done, 0, 4)] := by decide
theorem test_beat_error :
    let t := after .beatError (filling [fillBeat 0x1008, fillBeat 0x100C])
    t.dispatcher.halted = true ∧ t.completions.map Completion.fault = [some { address := 0x1008, side := .write }]
      ∧ t.causeSet .halt = true := by decide
theorem test_wait_space_presentation :
    let r := { ListReader.reset with state := .waitSpace, current := 0x2000, inHand := some fenceRecord, due := true }
    let t := after .waitSpacePresentation { filling [fillBeat 0x1000] with reader := r }
    t.reader.endReason = .ended ∧ t.queue.map Entry.kind = [.fence] ∧ t.dispatcher.waitReason = .fence := by decide

/-! ### Hypotheses that are met: for each statement that has some, a state and operands that meet them -/

/-- `waiting` in HALT. -/
def halted : State := { waiting with dispatcher := halt }

theorem test_hyp_FullResetAndRelease :
    State.reset.inReset = false ∧ low.inReset = true ∧ (Instr.tick ≠ .fullReset) ∧ (Instr.tick ≠ .resetRelease)
      ∧ ∀ n, Instr.tick ≠ .preqActive n ∧ Instr.tick ≠ .preqInactive n := by decide

theorem test_hyp_DefineStoresDescription :
    let s := { State.reset with surfaceStaging := displayStaging }
    s.inReset = false ∧ defineRefusal (decodeStaging s.surfaceStaging) (s.surface 0) = none
      ∧ defineRefusal (decodeStaging s.surfaceStaging) (s.surface 23) = none := by decide

theorem test_hyp_DefineRefusedInOrder :
    board.inReset = false ∧ 24 ≤ (24#8).toNat
      ∧ defineRefusal (decodeStaging board.surfaceStaging) (board.surface 0) = some .notFree
      ∧ defineRefusal (decodeStaging board.surfaceStaging) (board.surface 23) = some .badShape := by decide

theorem test_hyp_ReleaseByState :
    let s := (filling []).setSurface 2 { lineSurface with state := .draining, refcount := 1 }
    s.inReset = false ∧ 24 ≤ (24#8).toNat ∧ (s.surface 23).state = .free
      ∧ ((s.surface 1).state = .defined ∧ (s.surface 1).refcount = 0)
      ∧ ((s.surface 0).state = .defined ∧ 0 < (s.surface 0).refcount) ∧ (s.surface 2).state = .draining := by decide

theorem test_hyp_OnlyDefineDescribes :
    Instr.post.wellFormed = true ∧ exec .post board = .next (after .post board) ∧ (∀ k, Instr.post ≠ .define k)
      ∧ Instr.post ≠ .fullReset :=
  ⟨rfl, rfl, nofun, nofun⟩

theorem test_hyp_DescriptionsStayLegal :
    SurfacesLegal board ∧ exec (.release 0) board = .next (after (.release 0) board) :=
  ⟨by decide, rfl⟩

theorem test_hyp_ReferencesStayExact :
    LifeCycleSound (filling [fillBeat 0x100C])
      ∧ exec .beatError (filling [fillBeat 0x100C]) = .next (after .beatError (filling [fillBeat 0x100C])) :=
  ⟨by decide, rfl⟩

theorem test_hyp_ElementsShareNoByte :
    DescriptorLegal volumeSurface ∧ volumeSurface.shape ≠ some .port
      ∧ InBox { x := 2, y := 2, z := 2 } { x := 1, y := 1, z := 1 } ∧ InBox { x := 2, y := 2, z := 2 } { x := 0, y := 0, z := 0 }
      ∧ DescriptorLegal lineSurface ∧ DescriptorLegal portSurface := by decide

theorem test_hyp_PostRefusedInOrder :
    let s := { board with commandStaging := stagedFill.set 1 0 }
    let u := { board with queue := List.replicate 16 fence }
    s.inReset = false ∧ acceptanceRefusal s (decodeCommand s.commandStaging.toList) = some .stale
      ∧ acceptanceRefusal u (decodeCommand u.commandStaging.toList) = some .full := by decide

theorem test_hyp_PostAppendsEntry :
    let s := { waiting with commandStaging := stagedFill }
    let u := { board with commandStaging := stagedFill, dispatcher := halt }
    s.inReset = false ∧ acceptanceRefusal s (decodeCommand s.commandStaging.toList) = none ∧ s.queue ≠ []
      ∧ acceptanceRefusal u (decodeCommand u.commandStaging.toList) = none ∧ u.dispatcher.halted = true := by decide

/-- An empty queue in RUN: the entry that POST takes is held, reported with and without a completion slot, or issued. -/
theorem test_hyp_PostAppendsEntry_empty_queue :
    let fill := { filling [fillBeat 0x100C] with commandStaging := stagedFill }
    let free := { board with commandStaging := stagedFill }
    let report := { board with commandStaging := #v[0x00000703, 0, 0, 0, 0, 0, 0] }
    let full := { report with completions := fullRecords }
    let entry := { fillLine with signal := false }
    (acceptanceRefusal fill (decodeCommand fill.commandStaging.toList) = none ∧ fill.queue = []
        ∧ fill.dispatcher.halted = false ∧ holdOf fill entry = some .hazard)
      ∧ (acceptanceRefusal free (decodeCommand free.commandStaging.toList) = none ∧ free.queue = []
        ∧ reportOf free entry = none ∧ holdOf free entry = none ∧ LowestIdle free 0)
      ∧ (acceptanceRefusal report (decodeCommand report.commandStaging.toList) = none ∧ reportOf report fence = some .fence
        ∧ report.completions.length < 32 ∧ 32 ≤ full.completions.length) := by decide

theorem test_hyp_PostedFenceReportsAtOnce :
    let s := { State.reset with commandStaging := #v[0x00000703, 0, 0, 0, 0, 0, 0] }
    let c := decodeCommand s.commandStaging.toList
    s.inReset = false ∧ acceptanceRefusal s c = none ∧ c.kind = some .fence ∧ s.queue = []
      ∧ s.dispatcher.halted = false ∧ (s.mover 0).state = .idle ∧ (s.mover 1).state = .idle
      ∧ s.completions.length < 32 := by decide

/-- The volume as one side, from its second column, and the line as the other. -/
def volumeSide : NamedSide := { index := 2, surface := volumeSurface, origin := { x := 1, y := 0, z := -1 } }
def lineSide : NamedSide := { index := 0, surface := lineSurface, origin := { x := -1, y := 0, z := 0 } }

theorem test_hyp_FootprintCoversRectangle :
    let sides := [volumeSide]
    let size : Triple := { x := 2, y := 2, z := 2 }
    let p : Triple := { x := 0, y := 1, z := 0 }
    volumeSide ∈ sides ∧ DescriptorLegal volumeSide.surface ∧ volumeSide.surface.shape ≠ some .port
      ∧ InBox (effectiveSize size sides) p ∧ p.x + 1 = (effectiveSize size sides).x
      ∧ p.y + 1 = (effectiveSize size sides).y ∧ p.z + 1 = (effectiveSize size sides).z := by decide

/-- The other clauses: an empty rectangle, and a PORT. -/
theorem test_hyp_FootprintCoversRectangle_none_and_port :
    let far : NamedSide := { lineSide with origin := { x := 16, y := 0, z := 0 } }
    let port : NamedSide := { index := 1, surface := portSurface, origin := { x := 0, y := 0, z := 0 } }
    let none := effectiveSize { x := 4, y := 1, z := 1 } [far]
    let some := effectiveSize { x := 4, y := 1, z := 1 } [port]
    none.x * none.y * none.z = 0 ∧ some.x * some.y * some.z ≠ 0 ∧ port.surface.shape = Option.some .port := by decide

theorem test_hyp_ConflictMeansSharedByte :
    (∀ r ∈ fillLine.reads, r.lo ≤ r.hi) ∧ (∀ r ∈ fillLine.writes, r.lo ≤ r.hi)
      ∧ (∀ r ∈ fillPort.reads, r.lo ≤ r.hi) ∧ (∀ r ∈ fillPort.writes, r.lo ≤ r.hi)
      ∧ fillLine.conflicts fillLine = true ∧ fillLine.conflicts fillPort = false := by decide

theorem test_hyp_IssueToLowestIdleMover :
    let s := { board with queue := [fillLine, fence] }
    let u := s.setMover 0 { Mover.idle with state := .run, transfer := some fillPort }
    s.queue = fillLine :: [fence] ∧ fillLine.cancelled = false ∧ fillLine.kind ≠ .fence ∧ fillLine.isEmpty = false
      ∧ fillLine.line = none ∧ s.decision fillLine = .issue 0 ∧ u.decision fillLine = .issue 1
      ∧ (∀ g ∈ s.grant, g.live = true → g.owner ≠ .mover 0) := by decide

/-- The paced clauses: PREQn of the line inactive, and active. -/
theorem test_hyp_IssueToLowestIdleMover_paced :
    let s := { board with queue := [fillPort] }
    let a := s.setLine 0 { PacingLine.reset with request := true }
    s.queue = fillPort :: [] ∧ fillPort.cancelled = false ∧ fillPort.kind ≠ .fence ∧ fillPort.isEmpty = false
      ∧ fillPort.line = some 0 ∧ s.decision fillPort = .issue 0 ∧ (s.line 0).request = false ∧ (a.line 0).request = true
      ∧ (∀ g ∈ a.grant, g.live = true → g.owner ≠ .mover 0) := by decide

theorem test_hyp_DispatcherNeverBehind :
    EngineSound waiting ∧ DispatcherSound waiting ∧ exec .post waiting = .next (after .post waiting) :=
  ⟨by decide, by decide, rfl⟩

theorem test_hyp_TransfersStayApart :
    EngineSound waiting ∧ InFlightApart waiting ∧ exec .post waiting = .next (after .post waiting) :=
  ⟨by decide, by decide, rfl⟩

theorem test_hyp_QueueKeepsOrder :
    let s := { halted with commandStaging := stagedFill }
    Instr.post.wellFormed = true ∧ Instr.post ≠ .flush ∧ Instr.post ≠ .engineReset ∧ Instr.post ≠ .fullReset
      ∧ exec .post s = .next (after .post s) ∧ (∀ tag, Instr.post ≠ .abortTag tag)
      ∧ (after .post s).dispatcher.halted = true ∧ (after .post s).queue.length = 2 :=
  ⟨rfl, nofun, nofun, nofun, rfl, nofun, by decide, by decide⟩

theorem test_hyp_ResumeFromHalt :
    board.inReset = false ∧ board.dispatcher.halted = false
      ∧ { board with dispatcher := halt }.dispatcher.halted = true ∧ { board with dispatcher := halt }.queue = []
      ∧ halted.inReset = false ∧ halted.dispatcher.halted = true ∧ halted.queue = fence :: []
      ∧ holdOf halted fence = some .fence
      ∧ reportOf board fence = some .fence ∧ 32 ≤ fullRecords.length ∧ board.completions.length < 32 := by decide

/-- A head that RESUME issues. -/
theorem test_hyp_ResumeFromHalt_issue :
    let s := { board with queue := [fillLine], dispatcher := halt }
    s.inReset = false ∧ s.dispatcher.halted = true ∧ s.queue = fillLine :: [] ∧ reportOf s fillLine = none
      ∧ holdOf s fillLine = none ∧ LowestIdle s 0 ∧ PortSound s := by decide

theorem test_hyp_FlushEmptiesQueue :
    halted.inReset = false ∧ (fetching []).inReset = false ∧ (fetching []).reader.state ≠ .idle := by decide

theorem test_hyp_FlushChecksLowWater :
    let s := { waiting with queue := List.replicate 9 fence }
    s.inReset = false ∧ WithinCapacity s ∧ SettingsInRange s ∧ s.freeSlots < s.lowWater
      ∧ ¬ waiting.freeSlots < waiting.lowWater ∧ board.queue = [] := by decide

theorem test_hyp_UnitsTileRectangle :
    ElementSizeLegal (board.elementBytes fillPort) ∧ (∀ f ∈ board.portSurface fillPort, 1 ≤ f.burst.toNat)
      ∧ board.unitCount fillPort = 2 ∧ InBox fillPort.size { x := 7, y := 0, z := 0 }
      ∧ ElementSizeLegal (board.elementBytes fillLine) ∧ board.portSurface fillLine = none := by decide

theorem test_hyp_UnitsInTraversalOrder :
    let up := { fillLine with size := { x := 16, y := 2, z := 1 } }
    let down := { up with descending := true }
    ElementSizeLegal (board.elementBytes up) ∧ (∀ f ∈ board.portSurface up, 1 ≤ f.burst.toNat)
      ∧ 1 < board.unitCount up ∧ 1 < board.unitCount down ∧ 1 < board.unitCount fillPort
      ∧ (∃ r ∈ board.unitRuns up 0, InRun r { x := 15, y := 0, z := 0 })
      ∧ (∃ r ∈ board.unitRuns up 1, InRun r { x := 0, y := 1, z := 0 })
      ∧ (∃ r ∈ board.unitRuns down 0, InRun r { x := 0, y := 1, z := 0 })
      ∧ (∃ r ∈ board.unitRuns down 1, InRun r { x := 15, y := 0, z := 0 })
      ∧ (∃ r ∈ board.unitRuns fillPort 1, InRun r { x := 7, y := 0, z := 0 })
      ∧ board.portSurface up = none ∧ board.portSurface fillPort ≠ none := by decide

/-- A MOVE within the volume by one row down. -/
def scroll : Command :=
  { kind := some .move, tag := 0x60, clip := true, keyed := false, signal := false, src := { index := 2, generation := 1 }
    dst := { index := 2, generation := 1 }, srcOrigin := { x := 0, y := 0, z := 0 }
    dstOrigin := { x := 0, y := 1, z := 0 }, fill := 0, size := { x := 2, y := 1, z := 2 } }

theorem test_hyp_SelfMoveReadsBeforeWrites :
    let s := board.setSurface 2 volumeSurface
    let a : NamedSide := { volumeSide with origin := scroll.srcOrigin }
    let b : NamedSide := { volumeSide with origin := scroll.dstOrigin }
    let e := moveEntry scroll a b
    a.index = b.index ∧ a.surface = b.surface ∧ s.surface a.index = a.surface ∧ DescriptorLegal a.surface
      ∧ a.surface.shape ≠ some .port ∧ 1 < s.unitCount e ∧ e.descending = true
      ∧ (∃ r ∈ s.unitRuns e 0, InRun r { x := 0, y := 0, z := 1 })
      ∧ (∃ r ∈ s.unitRuns e 1, InRun r { x := 0, y := 0, z := 0 }) := by decide

theorem test_hyp_BeatsCoverByteRange :
    [some (1 : Byte)] ≠ [] ∧ 0xFFFFFFFF + [some (1 : Byte)].length ≤ 2 ^ 32 := by decide

theorem test_hyp_BurstForms :
    DescriptorLegal portSurface ∧ portSurface.elementSize = 4 ∧ [[(1 : Byte), 2, 3, 4]] ≠ []
      ∧ DescriptorLegal { portSurface with elementSize := 1, base := 0x4003 }
      ∧ { portSurface with elementSize := 1, base := 0x4003 }.elementSize ≠ 4 := by decide

/-- Nobody waits at the port. -/
theorem test_hyp_BeatAnsweredAdvancesBurst_nobody_waits :
    (∀ r, (filling [fillBeat 0x100C]).waiting r = none) ∧ (∀ r, (fetching []).waiting r = none) := by
  refine ⟨fun r => ?_, fun r => ?_⟩ <;> rcases r with m | _ <;> first | rfl | (fin_cases m <;> rfl)

/-- The burst in progress of a fetch, one beat left. -/
def fetchGrant (live : Bool) (beats : List Beat) : Grant :=
  { owner := .reader, live := live, burst := { form := .incrementing, write := false, start := 0x2000, length := 8, beats := beats } }

def fetchBeat : Beat := { address := 0x201C, enables := 15, bytes := [] }

/-- Each clause: no burst, a read of a mover, a fetch, a write, an orphan, its last beat, and a side with more bursts. -/
theorem test_hyp_BeatAnsweredAdvancesBurst :
    let b := fillBeat 0x100C
    let read : Grant := { owner := .mover 0, live := true, burst := { fillBurst [b, b] with write := false } }
    let more := (filling [b]).setMover 0 { (filling [b]).mover 0 with bursts := [fillBurst [b]] }
    board.inReset = false ∧ board.grant = none
      ∧ ({ filling [] with grant := some read }.grant = some read ∧ read.burst.beats = b :: [b] ∧ read.burst.write = false)
      ∧ { fetching [] with grant := some (fetchGrant true [fetchBeat, fetchBeat]) }.grant
          = some (fetchGrant true [fetchBeat, fetchBeat])
      ∧ (filling [b, b]).grant = some { owner := .mover 0, live := true, burst := fillBurst [b, b] }
      ∧ { fetching [] with grant := some (fetchGrant false [fetchBeat]) }.grant = some (fetchGrant false [fetchBeat])
      ∧ more.grant = some { owner := .mover 0, live := true, burst := fillBurst [b] }
      ∧ (more.mover 0).bursts = fillBurst [b] :: [] ∧ .mover 0 ∈ more.rotation := by decide

/-- `filling` in HALT, so that an end brings nothing else; `more` stands for a longer transfer. -/
def quiet (t : Entry) (stop : Bool) : State :=
  ({ filling [fillBeat 0x100C] with dispatcher := halt }).setMover 0
    { Mover.idle with state := .run, transfer := some t, side := .write, stop := stop }

theorem test_hyp_BoundaryDecidesOutcome :
    let two := { fillLine with size := { x := 16, y := 2, z := 1 } }
    let s := quiet fillLine false
    let port := (quiet fillPort false).setLine 0
      { PacingLine.reset with state := .burst, bound := some 0, endSeen := true }
    QuietEnd s 0 ∧ s.grant = some { owner := .mover 0, live := true, burst := fillBurst [fillBeat 0x100C] }
      ∧ (s.mover 0).transfer = some fillLine ∧ (s.mover 0).bursts = [] ∧ (s.mover 0).side = .write
      ∧ s.unitCount fillLine ≤ 0 + 1 ∧ ¬ (quiet two true).unitCount two ≤ 0 + 1 ∧ ((quiet two true).mover 0).stop = true
      ∧ ((quiet two false).mover 0).stop = false ∧ two.line = none ∧ QuietEnd port 0
      ∧ ¬ port.unitCount fillPort ≤ 0 + 1 ∧ (∃ l ∈ fillPort.line, (port.line l).endSeen = true)
      ∧ EndsUnit s 0 fillLine true (fillBeat 0x100C) 0 0 ∧ (s.mover 0).request = none := by decide

/-- A transfer that continues on its line, in each of the rows of R103, with an empty queue in RUN. -/
theorem test_hyp_BoundaryDecidesOutcome_paced :
    let on := fun l : PacingLine => ((filling [fillBeat 0x100C]).setMover 0
      { Mover.idle with state := .run, transfer := some fillPort, side := .write }).setLine 0 l
    let s := on bursting
    let i := on { bursting with request := false }
    let u := on { bursting with latchedMode := .step }
    let v := on { bursting with latchedMode := .step, request := false }
    QuietEnd s 0 ∧ s.dispatcher.halted = false ∧ (s.mover 0).transfer = some fillPort ∧ (s.mover 0).bursts = []
      ∧ EndsUnit s 0 fillPort true (fillBeat 0x100C) 0 0 ∧ ¬ s.unitCount fillPort ≤ (s.mover 0).position + 1
      ∧ (s.mover 0).stop = false ∧ (∀ l ∈ fillPort.line, (s.line l).endSeen = false)
      ∧ ((s.line 0).latchedMode = .demand ∧ (s.line 0).request = true)
      ∧ ((i.line 0).latchedMode = .demand ∧ (i.line 0).request = false)
      ∧ ((u.line 0).latchedMode = .step ∧ (u.line 0).request = true)
      ∧ ((v.line 0).latchedMode = .step ∧ (v.line 0).request = false) := by decide

/-- Four elements equal to the key of the volume. -/
def fourKeys : List (List Byte) := List.replicate 4 [5, 0, 0, 0]

theorem test_key_matches : MatchesKey (reading keyedMove) keyedMove [5, 0, 0, 0] :=
  ⟨rfl, _, rfl, 5, rfl, rfl⟩

theorem test_key_differs : ¬ MatchesKey (reading keyedMove) keyedMove [6, 0, 0, 0] := by
  rintro ⟨-, d, hd, k, hk, h⟩
  obtain rfl := (Option.mem_some.mp hd).symm
  obtain rfl : k = 5 := (Option.mem_some.mp hk).symm
  exact absurd h (by decide)

/-- A unit that ends on its read side: every element is equal to the key (R85). -/
theorem test_hyp_BoundaryDecidesOutcome_read_side :
    let s := reading keyedMove
    QuietEnd s 0 ∧ (s.mover 0).transfer = some keyedMove ∧ (s.mover 0).bursts = []
      ∧ s.unitCount keyedMove ≤ (s.mover 0).position + 1
      ∧ EndsUnit s 0 keyedMove false { address := 0x800C, enables := 15, bytes := [] } 5 4 := by
  refine ⟨by decide, by decide, by decide, by decide, .inr ⟨rfl, rfl, by decide, by decide, by decide, ?_, rfl⟩⟩
  intro el hel
  have h : el ∈ fourKeys := hel
  rw [List.eq_of_mem_replicate h]
  exact test_key_matches

/-- Each clause: a unit that starts, its read side from memory and from a port, its write side to memory and to a port; the
elements of `fourKeys` are equal to the key (`test_key_matches`), others are not (`test_key_differs`). -/
theorem test_hyp_UnitsMoveTheirData :
    let s := reading keyedMove
    let p := reading portMove
    let f := board.setMover 0 { Mover.idle with state := .run, transfer := some fillLine, side := .write }
    (f.mover 0).transfer = some fillLine ∧ ElementSizeLegal (f.elementBytes fillLine) ∧ outstanding f 0 = []
      ∧ (s.mover 0).transfer = some keyedMove ∧ ElementSizeLegal (s.elementBytes keyedMove)
      ∧ (∀ d ∈ keyedMove.src, (s.surface d.surface).shape ≠ some .port ∧ UnitAddressed s keyedMove 0 d)
      ∧ (p.mover 0).transfer = some portMove ∧ ElementSizeLegal (p.elementBytes portMove)
      ∧ (∀ d ∈ portMove.src, (p.surface d.surface).shape = some .port)
      ∧ (∀ d ∈ portMove.dst, (p.surface d.surface).shape ≠ some .port ∧ UnitAddressed p portMove 0 d)
      ∧ (∀ d ∈ keyedMove.dst, (s.surface d.surface).shape = some .port)
      ∧ fourKeys.length = s.unitElements keyedMove 0 ∧ (∀ el ∈ fourKeys, el.length = s.elementBytes keyedMove)
      ∧ fourKeys.length = p.unitElements portMove 0 := by decide

/-- The end of the read side with an element to write. -/
theorem test_hyp_UnitsMoveTheirData_read_end :
    let s := reading keyedMove
    let whole := (s.mover 0).buffer ++ laneBytes 15 6
    s.inReset = false ∧ (s.grant.map fun g => (g.live, g.owner, g.burst.write, g.burst.beats.length))
        = some (true, .mover 0, false, 1)
      ∧ (s.mover 0).bursts = [] ∧ (s.mover 0).side = .read
      ∧ s.waiting (.mover 0) = none ∧ s.waiting (.mover 1) = none ∧ s.waiting .reader = none ∧ .mover 0 ∈ s.rotation
      ∧ whole.length = s.unitElements keyedMove 0 * s.elementBytes keyedMove
      ∧ (s.writePlan keyedMove 0 (pieces 4 4 whole)).length = 1 := by decide

theorem test_hyp_BeatErrorFaults :
    let s := filling [fillBeat 0x1008, fillBeat 0x100C]
    s.inReset = false
      ∧ s.grant = some { owner := .mover 0, live := true, burst := fillBurst [fillBeat 0x1008, fillBeat 0x100C] }
      ∧ (s.mover 0).transfer = some fillLine ∧ s.completions.length < 32
      ∧ (∀ k : MoverIndex, k ≠ 0 → (s.mover k).state ≠ .post) ∧ s.dispatcher.halted = false
      ∧ halted.dispatcher.halted = true ∧ (fetching []).grant = some (fetchGrant true [fetchBeat]) := by decide

/-- A burst whose requester has gone, with nobody waiting and with the list reader waiting. -/
theorem test_hyp_BeatErrorFaults_orphan :
    let s := { filling [fillBeat 0x100C] with
      grant := some { owner := .mover 0, live := false, burst := fillBurst [fillBeat 0x100C] } }
    let w := s.setWaiting .reader (some (fillBurst [fillBeat 0x1000]))
    s.inReset = false ∧ board.grant = none
      ∧ (s.waiting (.mover 0) = none ∧ s.waiting (.mover 1) = none ∧ s.waiting .reader = none)
      ∧ w.rotation = [.mover 1] ++ .reader :: [.mover 0] ∧ (∀ k ∈ [Requester.mover 1], w.waiting k = none)
      ∧ w.waiting .reader = some (fillBurst [fillBeat 0x1000]) := by decide

/-- The dispatcher in RUN: no entry, a head that stays held, a marked head with and without a completion slot. -/
theorem test_hyp_AbortTagReachesAll_run :
    let s := filling [fillBeat 0x100C]
    let held := { waiting with queue := [fence, { fence with tag := 5 }] }
    let full := { waiting with completions := fullRecords }
    (s.dispatcher.halted = false ∧ PostersServed s ∧ s.queue = [] ∧ (s.mover 0).state = .run ∧ fillLine.tag = 5)
      ∧ (PostersServed held ∧ held.queue = fence :: [{ fence with tag := 5 }] ∧ holdOf held fence = some .fence)
      ∧ (PostersServed waiting ∧ waiting.queue = fence :: [] ∧ waiting.completions.length < 32
        ∧ reportOf waiting { fence with cancelled := true } = some .aborted)
      ∧ (PostersServed full ∧ 32 ≤ full.completions.length ∧ full.queue = fence :: []) := by decide

theorem test_hyp_AbortTagReachesAll :
    let pace := { pacing with dispatcher := halt }
    board.inReset = false ∧ halted.dispatcher.halted = true ∧ PostersServed halted ∧ (halted.mover 0).state = .run
      ∧ QuietEnd pace 0 ∧ (pace.mover 0).state = .pace ∧ (pace.mover 0).transfer = some fillPort ∧ fillPort.tag = 6
      ∧ (pace.mover 1).state = .idle := by decide

theorem test_hyp_CountsStaySound :
    SurfacesLegal waiting ∧ LifeCycleSound waiting ∧ EngineSound waiting ∧ CountsSound waiting
      ∧ exec .beatError waiting = .next (after .beatError waiting) ∧ CountsSound pacing :=
  ⟨by decide, by decide, by decide, by decide, rfl, by decide⟩

theorem test_hyp_EngineStaysSound :
    EngineSound pacing ∧ exec (.preqActive 0) pacing = .next (after (.preqActive 0) pacing) :=
  ⟨by decide, rfl⟩

theorem test_hyp_RequestLevelsAtLine :
    pacing.inReset = false ∧ (pacing.line 1).state ≠ .wait ∧ (pacing.line 0).state = .wait
      ∧ (pacing.line 0).bound = some 0 ∧ (pacing.mover 0).transfer = some fillPort ∧ outstanding pacing 0 = [] := by decide

theorem test_hyp_BurstEndByMode :
    let s := pacing.setLine 0 { pacing.line 0 with latchedMode := .demand, request := true }
    ((s.line 0).latchedMode = .demand ∧ (s.line 0).request = true)
      ∧ ¬ ((pacing.line 0).latchedMode = .demand ∧ (pacing.line 0).request = true) := by decide

theorem test_hyp_LineTimersAndEnds :
    let s := { pacing with dispatcher := halt }
    let u := s.setLine 0 { s.line 0 with timerCount := 0 }
    s.inReset = false ∧ (s.line 3).state = .idle ∧ { PacingLine.reset with state := .burst }.state = .burst
      ∧ QuietEnd u 0 ∧ (u.line 0).state = .wait ∧ (u.line 0).bound = some 0 ∧ (u.mover 0).transfer = some fillPort
      ∧ fillPort.line = some 0 ∧ (u.line 0).timerRunning = true ∧ (u.line 0).timerCount = 0
      ∧ (s.line 0).timerCount ≠ 0 ∧ s.divider ≠ none := by decide

/-- A full completion queue in RUN with no poster: no entry, and a head that is held. -/
theorem test_hyp_PopServesPosters_no_poster :
    let s := { board with completions := fullRecords }
    let w := { waiting with completions := fullRecords }
    s.completions.length = 32 ∧ s.dispatcher.halted = false ∧ s.dispatcher.slotRequest = false ∧ s.queue = []
      ∧ s.dispatcher.waitReason = .none ∧ w.queue = fence :: [] ∧ holdOf w fence = some w.dispatcher.waitReason := by decide

/-- A transfer can end at a full completion queue too. -/
theorem test_hyp_QuietEnd_full :
    let s := { filling [fillBeat 0x100C] with completions := fullRecords }
    let p := { pacing with completions := fullRecords }
    QuietEnd s 0 ∧ 32 ≤ s.completions.length ∧ EndsUnit s 0 fillLine true (fillBeat 0x100C) 0 0
      ∧ QuietEnd p 0 ∧ 32 ≤ p.completions.length ∧ (p.line 0).state = .wait := by decide

theorem test_hyp_PopServesPosters :
    let s := { board with completions := fullRecords }
    let p := s.setMover 0 { Mover.idle with state := .post, transfer := some fillLine, outcome := some .done }
    let q := s.setMover 1 { Mover.idle with state := .post, transfer := some fillLine, outcome := some .done }
    let f := { s with queue := [fence], dispatcher := { Dispatcher.reset with waitReason := .space, slotRequest := true } }
    board.completions = [] ∧ [record 0].length < 32 ∧ s.completions = record 0 :: fullRecords.tail
      ∧ s.completions.length = 32 ∧ (s.mover 0).state ≠ .post ∧ (s.mover 1).state ≠ .post ∧ halt.halted = true
      ∧ (p.mover 0).state = .post ∧ (p.mover 0).transfer = some fillLine ∧ (p.mover 0).outcome = some .done
      ∧ (q.mover 1).state = .post ∧ (q.mover 0).state ≠ .post
      ∧ f.dispatcher.halted = false ∧ f.queue = fence :: [] ∧ reportOf f fence = some .fence := by decide

theorem test_hyp_CompletionQueueKeepsOrder :
    Instr.engineReset.wellFormed = true ∧ board.inReset = false ∧ Instr.completionPop ≠ .engineReset
      ∧ Instr.completionPop ≠ .fullReset ∧ exec .completionPop board = .next (after .completionPop board) :=
  ⟨rfl, rfl, nofun, nofun, rfl⟩

theorem test_hyp_EveryCommandReportedOnce :
    Instr.post.wellFormed = true ∧ Instr.post ≠ .flush ∧ Instr.post ≠ .engineReset ∧ Instr.post ≠ .fullReset
      ∧ (∀ m : MoverIndex, (waiting.mover m).state = .idle → (waiting.mover m).transfer = none)
      ∧ exec .post waiting = .next (after .post waiting) :=
  ⟨rfl, nofun, nofun, nofun, by decide, rfl⟩

theorem test_hyp_CausesClearedByHostAlone :
    let s := { waiting with causes := 0x3F }
    s.inReset = false ∧ Instr.beatError.wellFormed = true ∧ (∀ value, Instr.beatError ≠ .intCauseWrite value)
      ∧ Instr.beatError ≠ .engineReset ∧ Instr.beatError ≠ .fullReset
      ∧ exec .beatError s = .next (after .beatError s) ∧ s.causeSet .freed = true :=
  ⟨rfl, rfl, nofun, nofun, nofun, rfl, by decide⟩

theorem test_hyp_InterruptFollowsEnables : board.inReset = false := by decide

theorem test_hyp_HaltCauseOnEntryToHalt :
    let s := { waiting with causes := 0x08 }
    s.inReset = false ∧ Instr.beatError.wellFormed = true ∧ (∀ value, Instr.beatError ≠ .intCauseWrite value)
      ∧ Instr.beatError ≠ .engineReset ∧ Instr.beatError ≠ .fullReset
      ∧ exec .beatError s = .next (after .beatError s) ∧ (8 : Word).getLsbD 3 = true
      ∧ exec (.intCauseWrite 8) s = .next (after (.intCauseWrite 8) s)
      ∧ exec .engineReset s = .next (after .engineReset s) ∧ exec .resume s = .next (after .resume s)
      ∧ s.causeSet .halt = true :=
  ⟨rfl, rfl, nofun, nofun, nofun, rfl, by decide, rfl, rfl, rfl, by decide⟩

theorem test_hyp_QueuesStayBounded :
    exec .post waiting = .next (after .post waiting) ∧ WithinCapacity waiting ∧ SequenceConsecutive waiting
      ∧ SettingsInRange waiting ∧ EngineSound waiting ∧ DispatcherSound waiting ∧ PostersServed waiting
      ∧ WaitSpaceFull waiting :=
  ⟨rfl, by decide, by decide, by decide, by decide, by decide, by decide, by decide⟩

theorem test_hyp_ListStartByState :
    let s := { board with listAddress := 0xFFFFFFE0 }
    s.inReset = false ∧ (fetching []).reader.state ≠ .idle ∧ s.reader.state = .idle ∧ (0x2010 : Word).toNat % 32 ≠ 0
      ∧ s.listAddress.toNat % 32 = 0 ∧ s.grant = none ∧ (filling [fillBeat 0x1000]).grant ≠ none := by decide

theorem test_hyp_ListStopByState :
    board.inReset = false ∧ board.reader.state = .idle ∧ (fetching []).reader.state ≠ .idle := by decide

/-- A list record's seven words, then its link word by the answer. -/
def fenceWords : List Word := fenceRecord.toList.take 7

theorem test_hyp_FetchedRecordIsPresented :
    let s := fetching fenceWords
    let c := decodeCommand (s.reader.fetched ++ [(1 : Word)])
    let full := { s with queue := List.replicate 16 fence }
    s.inReset = false ∧ s.grant = some (fetchGrant true [fetchBeat]) ∧ s.reader.fetched.length = 7
      ∧ (s.waiting (.mover 0) = none ∧ s.waiting (.mover 1) = none ∧ s.waiting .reader = none) ∧ .reader ∈ s.rotation
      ∧ acceptanceRefusal full c = some .full
      ∧ acceptanceRefusal s (decodeCommand (List.replicate 8 (0 : Word))) = some .badKind
      ∧ acceptanceRefusal s c = none ∧ { s with dispatcher := halt }.dispatcher.halted = true
      ∧ { s with queue := [fence] }.queue ≠ [] ∧ (1 : Word).getLsbD 0 = true ∧ (0x40 : Word).getLsbD 0 = false := by decide

theorem test_hyp_HeldRecordPresentedAfterRemoval :
    let r := { ListReader.reset with state := .waitSpace, current := 0x2000, inHand := some fenceRecord, due := true }
    let s := { waiting with reader := r }
    let c := decodeCommand fenceRecord.toList
    s.inReset = false ∧ board.reader.state ≠ .waitSpace ∧ s.reader.state = .waitSpace ∧ s.reader.due = true
      ∧ s.dispatcher.halted = false ∧ s.reader.inHand = some fenceRecord
      ∧ acceptanceRefusal { s with queue := List.replicate 16 fence } c = some .full
      ∧ acceptanceRefusal s (decodeCommand (List.replicate 8 (0 : Word))) = some .badKind
      ∧ acceptanceRefusal s c = none ∧ s.queue ≠ [] ∧ PortSound s ∧ fenceRecord[7].getLsbD 0 = true
      ∧ (fenceRecord.set 7 0x40)[7].getLsbD 0 = false := by decide

/-- The accepted clause with an empty queue. -/
theorem test_hyp_HeldRecordPresentedAfterRemoval_empty_queue :
    let r := { ListReader.reset with state := .waitSpace, current := 0x2000, inHand := some fenceRecord, due := true }
    let s := { board with reader := r }
    s.inReset = false ∧ s.dispatcher.halted = false ∧ s.queue = []
      ∧ acceptanceRefusal s (decodeCommand fenceRecord.toList) = none := by decide

theorem test_hyp_SingleRegisterWrites :
    board.inReset = false ∧ unknownCode 0 = true ∧ unknownCode 9 = true ∧ unknownCode 15 = true ∧ (14 : BitVec 4) ≠ 15
      ∧ 65536 < (65537 : Word).toNat ∧ 1 ≤ (65536 : Word).toNat ∧ (65536 : Word).toNat ≤ 65536 := by decide

theorem test_hyp_PlainRegisterWrites :
    board.inReset = false ∧ hasOwnRow 0x31 = false ∧ (0x31 : Offset).toNat ≠ 0x06 ∧ (0x31 : Offset).toNat ≠ 0x12
      ∧ ¬ (0x18 ≤ (0x31 : Offset).toNat ∧ (0x31 : Offset).toNat ≤ 0x1F)
      ∧ ¬ (0x32 ≤ (0x31 : Offset).toNat ∧ (0x31 : Offset).toNat ≤ 0x35) := by decide

theorem test_hyp_ReadsShowState :
    let s := { waiting with surfaceSelect := 23, completions := [record 0] }
    WithinCapacity s ∧ s.surfaceSelect.toNat = (23 : SurfaceIndex).val ∧ 24 ≤ (24 : BitVec 5).toNat
      ∧ s.completions = record 0 :: [] ∧ board.completions = [] ∧ (s.surface 23).refcount ≤ 31
      ∧ (record 0).moved ≤ 16777216 ∧ (record 0).skipped ≤ 16777216 ∧ (record 0).clipped ≤ 16777216
      ∧ s.postResult.count ≤ 16 ∧ SettingsInRange s ∧ s.dispatcher.fault = none ∧ halted.dispatcher.fault.isSome = true
      ∧ WithinCapacity halted ∧ 0x37 ≤ (0x37 : Offset).toNat := by decide

theorem test_hyp_WordWritesRoundTrip :
    (Instr.abortTag 0x60).wellFormed = true ∧ encodeWordWrite (.abortTag 0x60) = some (0x01, 0x00006005) := by decide

theorem test_hyp_EngineResetEmptiesEngine :
    let s := (filling []).setSurface 2 { lineSurface with state := .draining, refcount := 1 }
    s.inReset = false ∧ (s.surface 2).state = .draining := by decide

theorem test_hyp_EngineResetAndErrorCommute :
    let s := filling [fillBeat 0x100C]
    s.inReset = false ∧ (∀ r, s.waiting r = none) ∧ exec .beatError s = .next (after .beatError s)
      ∧ exec .engineReset (after .beatError s) = .next (after .engineReset (after .beatError s))
      ∧ exec .engineReset s = .next (after .engineReset s)
      ∧ exec .beatError (after .engineReset s) = .next (after .beatError (after .engineReset s)) :=
  ⟨rfl, test_hyp_BeatAnsweredAdvancesBurst_nobody_waits.1, rfl, rfl, rfl, rfl⟩

theorem test_hyp_ArbiterServesInRotation :
    let b := fillBurst [fillBeat 0x1000]
    let one := (filling [fillBeat 0x100C]).setWaiting .reader (some b)
    let two := one.setWaiting (.mover 1) (some b)
    board.grant = none ∧ one.grant ≠ none ∧ one.rotation = [.mover 1] ++ .reader :: [.mover 0]
      ∧ one.waiting (.mover 1) = none ∧ one.waiting .reader = some b
      ∧ PortSound two ∧ two.grant.map Grant.owner = some (.mover 0) ∧ two.waiting .reader = some b
      ∧ .reader ∈ one.rotation ∧ one.waiting (.mover 0) = none := by decide

theorem test_hyp_HostSideChangesByHostAlone :
    exec .post board = .next (after .post board) ∧ exec .tick board = .next (after .tick board)
      ∧ exec .flush board = .next (after .flush board) :=
  ⟨rfl, rfl, rfl⟩

end Sys2Proof.Tests
end

section
/-! Every command is one of the table's rows: a command with another row's operands acts as that row (log 14). -/

namespace Sys2Proof.Machine

/-- A command with a next state has the state that its meaning gives. -/
theorem next_inj {s t : State} (h : (Host.Outcome.next s : Host.Outcome State Fault Refusal) = .next t) : t = s :=
  (Host.Outcome.next.inj h).symm

theorem decodeControl_wellFormed (word : Word) : (decodeControl word).wellFormed = true := by
  unfold decodeControl
  dsimp only
  split
  case h_9 =>
    simp only [Instr.wellFormed, unknownCode, Bool.or_eq_true, decide_eq_true_eq, imp_false] at *
    omega
  all_goals rfl

theorem decodeWordWrite_wellFormed (offset : Offset) (word : Word) : (decodeWordWrite offset word).wellFormed = true := by
  unfold decodeWordWrite
  split
  case h_1 => exact decodeControl_wellFormed word
  case h_9 => simp_all [Instr.wellFormed, hasOwnRow]
  all_goals rfl

/-- A word written to CONTROL acts as the control command of its code and operand (R167). -/
theorem exec_decodeControl (word : Word) (s : State) :
    exec (decodeControl word) s = .next (s.unlessReset (s.control (word.extractLsb' 0 4) (word.extractLsb' 8 8))) := by
  unfold decodeControl
  dsimp only
  split
  case h_9 => rfl
  all_goals
    rename_i hcode
    unfold State.control
    rw [hcode]
    rfl

/-- A word write acts as the write at its offset (R165). -/
theorem exec_decodeWordWrite (offset : Offset) (word : Word) (s : State) :
    exec (decodeWordWrite offset word) s = .next (s.unlessReset (s.writeWord offset word)) := by
  unfold decodeWordWrite
  split
  case h_1 hoffset =>
    unfold State.writeWord
    rw [hoffset]
    exact exec_decodeControl word s
  case h_9 => rfl
  all_goals
    rename_i hoffset
    unfold State.writeWord
    rw [hoffset]
    rfl

/-- Offset 0 is read-only: a word written there has no effect. -/
theorem exec_write_readOnly (s : State) : exec (.registerWrite 0 0) s = .next s := by
  cases h : s.inReset <;> simp [exec, execRegisterWrite, State.unlessReset, h, State.writeWord, State.writePlain]

/-- The bits of a word of CONTROL: code, operand, and 0 in the ignored ones (Table 9-8). -/
theorem controlWord_bit (code : BitVec 4) (operand : BitVec 8) (i : Nat) :
    (controlWord code operand).getLsbD i =
      if i < 8 then (if i < 4 then code.getLsbD i else false)
      else if i - 8 < 8 then operand.getLsbD (i - 8) else false := by
  unfold controlWord
  simp only [BitVec.getLsbD_append, BitVec.getLsbD_zero]

/-- A word of CONTROL holds its code and its operand in their places. -/
theorem controlWord_fields (code : BitVec 4) (operand : BitVec 8) :
    (controlWord code operand).extractLsb' 0 4 = code ∧ (controlWord code operand).extractLsb' 8 8 = operand := by
  constructor
  · ext i hi
    have h8 : i < 8 := by omega
    simp [controlWord_bit, hi, h8]
  · ext i hi
    simp [controlWord_bit, hi]

/-- Whatever its operands, a command acts as one whose operands are those of its row. -/
theorem exec_as_wellFormed (i : Instr) (s : State) : ∃ j : Instr, j.wellFormed = true ∧ exec i s = exec j s := by
  cases i
  case unknownCommand code operand =>
    refine ⟨decodeControl (controlWord code operand), decodeControl_wellFormed _, ?_⟩
    obtain ⟨hcode, hoperand⟩ := controlWord_fields code operand
    rw [exec_decodeControl, hcode, hoperand]
    rfl
  case registerWrite offset value =>
    exact ⟨decodeWordWrite offset value, decodeWordWrite_wellFormed _ _, (exec_decodeWordWrite _ _ _).symm⟩
  case nonWordAccess access offset enables =>
    by_cases hw : enables = 15#4
    · cases access with
      | read =>
        refine ⟨.registerWrite 0 0, by decide, ?_⟩
        rw [exec_write_readOnly]
        simp [exec, execNonWordAccess, hw, State.unlessReset]
      | write value =>
        refine ⟨decodeWordWrite offset value, decodeWordWrite_wellFormed _ _, ?_⟩
        rw [exec_decodeWordWrite]
        simp [exec, execNonWordAccess, hw]
    · exact ⟨.nonWordAccess access offset enables, by simpa [Instr.wellFormed] using hw, rfl⟩
  all_goals exact ⟨_, rfl, rfl⟩

end Sys2Proof.Machine
end

section
/-! References given back, by one command or by many: what becomes of each surface, of FREED_SET and of the FREED cause
(R16 to R20). -/

namespace Sys2Proof.Machine

open Sys2Proof.Safety

/-! ### Causes -/

/-- A flag of the mask of a cause is its own. -/
theorem mask_bit (c k : Cause) : c.mask.getLsbD k.bit = (k == c) := by
  cases c <;> cases k <;> decide

@[simp] theorem raise_causeSet (s : State) (c k : Cause) : (s.raise c).causeSet k = (s.causeSet k || k == c) := by
  simp [State.causeSet, mask_bit]

theorem raiseIf_causeSet (s : State) (b : Bool) (c k : Cause) :
    (s.raiseIf b c).causeSet k = (s.causeSet k || (k == c && b)) := by
  cases b <;> simp [State.raiseIf]

/-! ### One reference -/

section One

variable (s : State) (a i : SurfaceIndex)

/-- The bit of an entry in FREED_SET. -/
theorem freedBit : (1#24 <<< a.val).getLsbD i.val = decide (a = i) := by
  have hi : i.val < 24 := i.isLt
  by_cases h : a = i
  · subst h
    simp [hi]
  · have hv : a.val ≠ i.val := fun e => h (Fin.ext e)
    simp only [BitVec.getLsbD_shiftLeft, BitVec.getLsbD_one, h, decide_false]
    by_cases hlt : i.val < a.val
    · simp [hlt]
    · have : i.val - a.val ≠ 0 := by omega
      simp [this]

theorem free_freedSet : (s.free a).freedSet.getLsbD i.val = (s.freedSet.getLsbD i.val || decide (a = i)) := by
  rw [← freedBit]
  exact BitVec.getLsbD_or

/-- A DRAINING entry with at most one reference: it becomes FREE where a reference is returned (R17). -/
abbrev LastReference : Prop :=
  (s.surface a).state = .draining ∧ (s.surface a).refcount ≤ 1

theorem returnRef_freedSet :
    (s.returnRef a).freedSet.getLsbD i.val = (s.freedSet.getLsbD i.val || decide (a = i ∧ LastReference s a)) := by
  unfold State.returnRef
  by_cases hd : (s.surface a).state = .draining <;> by_cases hr : (s.surface a).refcount ≤ 1 <;>
    simp [hd, hr, Nat.sub_eq_zero_iff_le, free_freedSet, -BitVec.getLsbD_eq_getElem]

theorem returnRef_causeSet (k : Cause) :
    (s.returnRef a).causeSet k = (s.causeSet k || (k == .freed && decide (LastReference s a))) := by
  unfold State.returnRef
  by_cases hd : (s.surface a).state = .draining <;> by_cases hr : (s.surface a).refcount ≤ 1 <;>
    simp [hd, hr, Nat.sub_eq_zero_iff_le] <;> rfl

end One

/-! ### Many references -/

/-- A surface that `n` references are returned of: FREE when a DRAINING one falls to 0 (R17). -/
def Surface.afterReturns (f : Surface) (n : Nat) : Surface :=
  { f with
    refcount := f.refcount - n
    state := if f.state = .draining ∧ 0 < n ∧ f.refcount ≤ n then .free else f.state }

/-- The returns of a list of references free a surface. -/
abbrev ReturnsFree (s : State) (l : List SurfaceIndex) (i : SurfaceIndex) : Prop :=
  (s.surface i).state = .draining ∧ 0 < l.count i ∧ (s.surface i).refcount ≤ l.count i

theorem Surface.afterReturns_zero (f : Surface) : f.afterReturns 0 = f := by
  simp [Surface.afterReturns]

theorem Surface.afterReturns_succ (f : Surface) (n : Nat) : (f.afterReturns 1).afterReturns n = f.afterReturns (n + 1) := by
  have hsub : f.refcount - 1 - n = f.refcount - (n + 1) := by omega
  by_cases hd : f.state = .draining
  · by_cases h1 : f.refcount ≤ 1
    · have : f.refcount ≤ n + 1 := by omega
      simp [Surface.afterReturns, hd, h1, this]
    · have h : (0 < n ∧ f.refcount ≤ n + 1) ↔ f.refcount ≤ n + 1 := by omega
      simp [Surface.afterReturns, hd, h1, hsub, h]
  · simp [Surface.afterReturns, hd, hsub]

theorem returnRef_surface_eq (s : State) (a i : SurfaceIndex) :
    (s.returnRef a).surface i = if a = i then (s.surface i).afterReturns 1 else s.surface i := by
  split
  · rename_i h
    subst h
    simp [returnRef_surface, Surface.afterReturns]
  · rename_i h
    exact returnRef_surface_ne s a fun e => h e.symm

/-- Every surface after a list of references has been returned. -/
theorem foldl_returnRef_surface (i : SurfaceIndex) :
    ∀ (l : List SurfaceIndex) (s : State), (l.foldl State.returnRef s).surface i = (s.surface i).afterReturns (l.count i)
  | [], s => by simp [Surface.afterReturns_zero]
  | a :: l, s => by
    rw [List.foldl_cons, foldl_returnRef_surface i l, returnRef_surface_eq, List.count_cons]
    by_cases h : a = i <;> simp [h, Surface.afterReturns_succ]

/-- The first return frees its surface, or a later one frees it or another. -/
theorem returnsFree_cons (s : State) (a i : SurfaceIndex) (l : List SurfaceIndex) :
    ReturnsFree s (a :: l) i ↔ (a = i ∧ LastReference s a) ∨ ReturnsFree (s.returnRef a) l i := by
  unfold ReturnsFree LastReference
  rw [returnRef_surface_eq, List.count_cons]
  generalize l.count i = n
  by_cases h : a = i
  · subst h
    by_cases hd : (s.surface a).state = .draining <;> by_cases h1 : (s.surface a).refcount ≤ 1 <;>
      simp [Surface.afterReturns, hd, h1] <;> omega
  · simp [h]

theorem foldl_returnRef_freedSet (i : SurfaceIndex) :
    ∀ (l : List SurfaceIndex) (s : State), (l.foldl State.returnRef s).freedSet.getLsbD i.val =
      (s.freedSet.getLsbD i.val || decide (ReturnsFree s l i))
  | [], s => by simp
  | a :: l, s => by
    rw [List.foldl_cons, foldl_returnRef_freedSet i l, returnRef_freedSet, decide_eq_decide.mpr (returnsFree_cons s a i l),
      Bool.decide_or, Bool.or_assoc]

theorem foldl_returnRef_causeSet (k : Cause) :
    ∀ (l : List SurfaceIndex) (s : State), (l.foldl State.returnRef s).causeSet k =
      (s.causeSet k || (k == .freed && decide (∃ i, ReturnsFree s l i)))
  | [], s => by simp
  | a :: l, s => by
    have h : (∃ i, ReturnsFree s (a :: l) i) ↔ LastReference s a ∨ ∃ i, ReturnsFree (s.returnRef a) l i := by
      simp only [returnsFree_cons, exists_or, exists_eq_left']
    rw [List.foldl_cons, foldl_returnRef_causeSet k l, returnRef_causeSet, decide_eq_decide.mpr h, Bool.decide_or,
      Bool.or_assoc, ← Bool.and_or_distrib_left]

/-! ### The surfaces that one command names -/

theorem Entry.surfaces_nodup (e : Entry) : e.surfaces.Nodup := by
  unfold Entry.surfaces
  split
  · split
    · simp
    · rename_i h
      simpa using h
  all_goals simp

/-- A command names a surface once or not at all. -/
theorem Entry.surfaces_count (e : Entry) (i : SurfaceIndex) : e.surfaces.count i = if i ∈ e.surfaces then 1 else 0 :=
  e.surfaces_nodup.count

theorem returnRefs_surface (s : State) (e : Entry) (i : SurfaceIndex) :
    (s.returnRefs e).surface i = (s.surface i).afterReturns (if i ∈ e.surfaces then 1 else 0) := by
  rw [State.returnRefs, foldl_returnRef_surface, Entry.surfaces_count]

/-- A command that gives its references back (R17, R19, R20). -/
theorem returnRefs_returnsRefs (s : State) (e : Entry) : ReturnsRefs s (s.returnRefs e) e.surfaces := by
  have hfree (i : SurfaceIndex) : ReturnsFree s e.surfaces i ↔ FreedBy s e.surfaces i := by
    unfold ReturnsFree FreedBy
    rw [Entry.surfaces_count]
    by_cases h : i ∈ e.surfaces <;> simp [h]
  refine ⟨fun i => ?_, fun i => ?_, ?_⟩
  · rw [returnRefs_surface]
    by_cases h : i ∈ e.surfaces <;> simp [h, Surface.afterReturns, FreedBy]
  · rw [State.returnRefs, foldl_returnRef_freedSet, decide_eq_decide.mpr (hfree i)]
  · rw [State.returnRefs, foldl_returnRef_causeSet, decide_eq_decide.mpr (exists_congr hfree)]
    rfl

/-- A surface with `n` references more (R16). -/
def Surface.withRefs (f : Surface) (n : Nat) : Surface :=
  { f with refcount := f.refcount + n }

theorem Surface.withRefs_zero (f : Surface) : f.withRefs 0 = f := rfl

theorem Surface.withRefs_succ (f : Surface) (n : Nat) : (f.withRefs 1).withRefs n = f.withRefs (n + 1) := by
  simp [Surface.withRefs, Nat.add_assoc, Nat.add_comm 1 n]

theorem addRef_surface_eq (s : State) (a i : SurfaceIndex) :
    (s.addRef a).surface i = if a = i then (s.surface i).withRefs 1 else s.surface i := by
  split
  · rename_i h
    subst h
    simp [State.addRef, Surface.withRefs]
  · rename_i h
    exact setSurface_surface_ne s (fun e => h e.symm) _

theorem foldl_addRef_surface (i : SurfaceIndex) :
    ∀ (l : List SurfaceIndex) (s : State), (l.foldl State.addRef s).surface i = (s.surface i).withRefs (l.count i)
  | [], s => by simp [Surface.withRefs_zero]
  | a :: l, s => by
    rw [List.foldl_cons, foldl_addRef_surface i l, addRef_surface_eq, List.count_cons]
    by_cases h : a = i <;> simp [h, Surface.withRefs_succ]

/-- The surfaces of a command that takes its references (R16). -/
theorem addRefs_surface (s : State) (e : Entry) (i : SurfaceIndex) :
    (s.addRefs e).surface i = (s.surface i).withRefs (if i ∈ e.surfaces then 1 else 0) := by
  rw [State.addRefs, foldl_addRef_surface, Entry.surfaces_count]

end Sys2Proof.Machine
end

section
/-! The books of the device: its surface table, and which held commands name which surfaces (spec/01, section 1.6). What each
operation of the engine does to them, once; and every command, packaged: a property of the books that the engine's own work
keeps is kept by every command but those that edit the table themselves. -/

namespace Sys2Proof.Machine

/-- The books of `t` are those of `s`: the same surface table, and the same surfaces named entry by entry and transfer by
transfer; no mover that held a transfer in another state has gone IDLE. -/
structure BooksKept (s t : State) : Prop where
  surfaces : t.surfaces = s.surfaces
  queue : t.queue.map Entry.surfaces = s.queue.map Entry.surfaces
  transfer : ∀ m, (t.mover m).transfer = (s.mover m).transfer
  idle : ∀ m, (t.mover m).state = .idle → (s.mover m).state = .idle

theorem BooksKept.refl (s : State) : BooksKept s s := ⟨rfl, rfl, fun _ => rfl, fun _ => id⟩

theorem BooksKept.trans {s t u : State} (h : BooksKept s t) (k : BooksKept t u) : BooksKept s u :=
  ⟨k.surfaces.trans h.surfaces, k.queue.trans h.queue, fun m => (k.transfer m).trans (h.transfer m),
    fun m i => h.idle m (k.idle m i)⟩

/-- An update that leaves table, queue and movers alone. -/
theorem BooksKept.of_eq {s t : State} (hs : t.surfaces = s.surfaces) (hq : t.queue = s.queue) (hm : t.movers = s.movers) :
    BooksKept s t :=
  ⟨hs, congrArg _ hq, fun m => by rw [mover_congr hm], fun m => by rw [mover_congr hm]; exact id⟩

/-! ### Movers, lines and the master port -/

section Port

variable (s : State) (m : MoverIndex) (n : LineIndex)

/-- A mover that keeps its transfer, and stays out of IDLE if it was. -/
theorem setMover_books {v : Mover} (ht : v.transfer = (s.mover m).transfer)
    (hi : v.state = .idle → (s.mover m).state = .idle) : BooksKept s (s.setMover m v) where
  surfaces := rfl
  queue := rfl
  transfer k := by
    by_cases h : k = m
    · subst h
      rw [setMover_mover]
      exact ht
    · rw [setMover_mover_ne s h]
  idle k := by
    by_cases h : k = m
    · subst h
      rw [setMover_mover]
      exact hi
    · rw [setMover_mover_ne s h]
      exact id

/-- A mover whose items but the transfer and the state change. -/
theorem setMover_items_books (v : Mover) (ht : v.transfer = (s.mover m).transfer) (hs : v.state = (s.mover m).state) :
    BooksKept s (s.setMover m v) :=
  setMover_books s m ht fun h => hs ▸ h

theorem setLine_books (v : PacingLine) : BooksKept s (s.setLine n v) := .of_eq rfl rfl rfl

theorem grantTo_books (r : Requester) (b : Burst) : BooksKept s (s.grantTo r b) := .of_eq rfl rfl rfl

theorem setWaiting_books (r : Requester) (b : Option Burst) : BooksKept s (s.setWaiting r b) := by
  cases r
  · exact setMover_items_books s _ _ rfl rfl
  · exact .of_eq rfl rfl rfl

theorem requestBurst_books (r : Requester) (b : Burst) : BooksKept s (s.requestBurst r b) := by
  unfold State.requestBurst
  split
  · exact grantTo_books s r b
  · exact setWaiting_books s r _

theorem releasePort_books : BooksKept s s.releasePort := by
  have h : BooksKept s { s with grant := none } := .of_eq rfl rfl rfl
  unfold State.releasePort
  dsimp only
  split
  · exact h
  · split
    · exact h
    · exact (h.trans (setWaiting_books _ _ _)).trans (grantTo_books _ _ _)

theorem eitherOrder_books (t : State) : BooksKept t (s.eitherOrder t) := by
  unfold State.eitherOrder
  split
  · split
    · exact .refl t
    · rename_i g r _ _ _ _ b _
      have hdraw : BooksKept t { t with draws := t.draws + 1 } := .of_eq rfl rfl rfl
      dsimp only
      split
      · exact ((hdraw.trans (setWaiting_books _ r none)).trans (setWaiting_books _ g.owner (some g.burst))).trans
          (.of_eq rfl rfl rfl)
      · exact hdraw
  · exact .refl t

theorem disown_books (r : Requester) : BooksKept s (s.disown r) := by
  unfold State.disown
  split
  · split
    · exact .of_eq rfl rfl rfl
    · exact .refl s
  · exact .refl s

theorem launch_books (bursts : List Burst) : BooksKept s (s.launch m bursts) := by
  cases bursts with
  | nil => exact setMover_items_books s m _ rfl rfl
  | cons b bs => exact (setMover_items_books s m ((s.mover m).queued bs) rfl rfl).trans (requestBurst_books _ _ _)

theorem startUnit_books : BooksKept s (s.startUnit m) := by
  unfold State.startUnit
  dsimp only
  split
  · exact .refl s
  · split
    · exact (setMover_items_books s m ((s.mover m).beginUnit .write) rfl rfl).trans (launch_books _ m _)
    · exact (setMover_items_books s m ((s.mover m).beginUnit .read) rfl rfl).trans (launch_books _ m _)

/-- A mover that passes to a state other than IDLE. -/
theorem inState_books {st : MoverState} (h : st ≠ .idle) : BooksKept s (s.setMover m ((s.mover m).inState st)) :=
  setMover_books s m rfl fun e => absurd e h

theorem admitBurst_books : BooksKept s (s.admitBurst n m) :=
  ((setLine_books s n _).trans (inState_books _ m (by decide))).trans (startUnit_books _ m)

theorem waitIn_books (st : LineState) : BooksKept s (s.waitIn n m st) :=
  (setLine_books s n _).trans (inState_books _ m (by decide))

theorem bind_books : BooksKept s (s.bind n m) := by
  unfold State.bind
  dsimp only
  split
  · exact (setLine_books s n _).trans (admitBurst_books _ m n)
  · exact (setLine_books s n _).trans (waitIn_books _ m n _)

theorem burstContinues_books : BooksKept s (s.burstContinues n m) := by
  unfold State.burstContinues
  dsimp only
  refine (setLine_books s n (s.line n).burstOver).trans ?_
  split
  · exact admitBurst_books _ m n
  all_goals exact waitIn_books _ m n _

theorem finish_books (o : Outcome) (f : Option FaultItem) : BooksKept s (s.finish m o f) := by
  have h : BooksKept s (s.setMover m ((s.mover m).ended o f)) := setMover_books s m rfl nofun
  unfold State.finish
  dsimp only
  split
  · exact h
  · exact h.trans (setLine_books _ _ _)

theorem stopMover_books (tag : Tag) : BooksKept s (s.stopMover tag m) := by
  unfold State.stopMover
  dsimp only
  split
  · exact .refl s
  · split
    · split
      · exact setMover_items_books s m _ rfl rfl
      · exact finish_books s m _ _
      all_goals exact .refl s
    · exact .refl s

end Port

/-! ### Records, the list reader and the dispatcher -/

section Records

variable (s : State)

theorem raiseIf_books (b : Bool) (c : Cause) : BooksKept s (s.raiseIf b c) := by
  obtain ⟨_, h⟩ := raiseIf_causes_only s b c
  rw [h]
  exact .of_eq rfl rfl rfl

theorem appendRecord_books (r : Completion) : BooksKept s (s.appendRecord r) := by
  obtain ⟨_, h⟩ := appendRecord_only s r
  rw [h]
  exact .of_eq rfl rfl rfl

/-- A removal takes the head out of the books. -/
theorem removeHead_books : BooksKept { s with queue := s.queue.tail } s.removeHead := by
  obtain ⟨_, h⟩ := removeHead_only s
  rw [h]
  exact .of_eq rfl rfl rfl

theorem captureFault_books (r : FaultRecord) : BooksKept s (s.captureFault r) := by
  unfold State.captureFault
  split
  · exact .refl s
  · exact .of_eq rfl rfl rfl

theorem setReader_books (r : ListReader) : BooksKept s { s with reader := r } := .of_eq rfl rfl rfl

theorem endList_books (w : EndReason) (r : Option Reason) : BooksKept s (s.endList w r) := .of_eq rfl rfl rfl

theorem enterFetch_books (a : Word) : BooksKept s (s.enterFetch a) := .of_eq rfl rfl rfl

theorem result_books (c : ResultCode) (v : Nat) : BooksKept s (s.result c v) := .of_eq rfl rfl rfl

theorem stopList_books : BooksKept s s.stopList := by
  unfold State.stopList
  split
  · exact .refl s
  all_goals exact (endList_books s _ _).trans (disown_books _ _)

theorem takeData_books (r : Requester) (w : Bool) (b : Beat) (d : Word) : BooksKept s (s.takeData r w b d) := by
  unfold State.takeData
  split
  · exact .refl s
  · split
    · exact setMover_items_books s _ _ rfl rfl
    · exact setReader_books s _

end Records

/-! ### Updates on equal books -/

/-- Returned references keep movers, lines and queue. -/
theorem returnRefs_queue (s : State) (e : Entry) : (s.returnRefs e).queue = s.queue := by
  obtain ⟨_, _, _, h⟩ := returnRefs_refsOnly s e
  rw [h]

theorem returnRefs_movers (s : State) (e : Entry) : (s.returnRefs e).movers = s.movers := by
  obtain ⟨_, _, _, h⟩ := returnRefs_refsOnly s e
  rw [h]

theorem addRefs_movers (s : State) (e : Entry) : (s.addRefs e).movers = s.movers := by
  obtain ⟨_, _, _, h⟩ := addRefs_refsOnly s e
  rw [h]

/-- Two states whose entries agree one by one have the same table. -/
theorem surfaces_ext {s t : State} (h : ∀ i, t.surface i = s.surface i) : t.surfaces = s.surfaces := by
  ext i hi
  exact h ⟨i, hi⟩

theorem BooksKept.returnRefs {s t : State} (h : BooksKept s t) (e : Entry) : BooksKept (s.returnRefs e) (t.returnRefs e) where
  surfaces := surfaces_ext fun i => by rw [returnRefs_surface, returnRefs_surface, surface_congr h.surfaces]
  queue := by rw [returnRefs_queue, returnRefs_queue, h.queue]
  transfer m := by rw [mover_congr (returnRefs_movers t e), mover_congr (returnRefs_movers s e), h.transfer m]
  idle m := by
    rw [mover_congr (returnRefs_movers t e), mover_congr (returnRefs_movers s e)]
    exact h.idle m

theorem BooksKept.setMover {s t : State} (h : BooksKept s t) (m : MoverIndex) (v : Mover) :
    BooksKept (s.setMover m v) (t.setMover m v) where
  surfaces := h.surfaces
  queue := h.queue
  transfer k := by
    by_cases hk : k = m
    · subst hk
      simp
    · rw [setMover_mover_ne s hk, setMover_mover_ne t hk, h.transfer k]
  idle k := by
    by_cases hk : k = m
    · subst hk
      simp
    · rw [setMover_mover_ne s hk, setMover_mover_ne t hk]
      exact h.idle k

/-! ### The engine's own work -/

/-- A property of the books that the engine's own work keeps: a head reported, a transfer posted, a head issued to an IDLE
mover, a command accepted whose surfaces are not FREE. -/
structure EngineKeeps (P : State → Prop) : Prop where
  books : ∀ {s t}, BooksKept s t → P s → P t
  reported : ∀ {s e q}, s.queue = e :: q → P s → P ({ s with queue := q }.returnRefs e)
  posted : ∀ {s m e}, (s.mover m).transfer = some e → P s → P ((s.setMover m Mover.idle).returnRefs e)
  issued : ∀ {s e q m}, s.queue = e :: q → (s.mover m).state = .idle → P s →
    P ({ s with queue := q }.setMover m (Mover.take e))
  accepted : ∀ {s e}, (∀ i ∈ e.surfaces, (s.surface i).state ≠ .free) → P s → P (s.enqueue e)

/-- The mover that a head is issued to is IDLE (R63). -/
theorem decision_issue_idle {s : State} {e : Entry} {m : MoverIndex} (h : s.decision e = .issue m) :
    (s.mover m).state = .idle := by
  have hidle : s.idleMover = some m := by
    unfold State.decision at h
    repeat' split at h
    all_goals simp_all
  unfold State.idleMover at hidle
  split at hidle
  · cases hidle
    assumption
  · split at hidle
    · cases hidle
      assumption
    · cases hidle

/-! ### What an accepted command names -/

theorem firstRefusal_eq_none {checks : List Check} : firstRefusal checks = none ↔ ∀ k ∈ checks, k.refuses = false := by
  simp [firstRefusal]

theorem verdictOf_accepted {r : Option Reason} {e e' : Entry} :
    verdictOf r e' = .accepted e ↔ r = none ∧ e' = e := by
  cases r <;> simp [verdictOf]

/-- A named side shows the entry at its index. -/
theorem named_eq_some {s : State} {name : SurfaceName} {o : Origin} {d : NamedSide} (h : s.named name o = some d) :
    d.index.val = name.index ∧ d.surface = s.surface d.index ∧ d.origin = o := by
  unfold State.named surfaceIndex at h
  split at h
  · cases h
    exact ⟨rfl, rfl, rfl⟩
  · cases h

/-- The entry of an accepted command, by its kind (Table 2-6). -/
inductive EntryFrom (s : State) (c : Command) : Entry → Prop where
  | fence : c.kind = some .fence → EntryFrom s c (fenceEntry c)
  | fill {b : NamedSide} : c.kind = some .fill → s.named c.dst c.dstOrigin = some b → EntryFrom s c (fillEntry c b)
  | move {a b : NamedSide} : c.kind = some .move → s.named c.src c.srcOrigin = some a →
      s.named c.dst c.dstOrigin = some b → EntryFrom s c (moveEntry c a b)

/-- An accepted command has passed checks 1 to 6, and has its entry. -/
theorem verdict_accepted {s : State} {c : Command} {e : Entry} (h : s.verdict c = .accepted e) :
    (∀ k ∈ s.commandChecks c ++ s.nameChecks c, k.refuses = false) ∧ EntryFrom s c e := by
  unfold State.verdict at h
  split at h
  · cases h
  · rename_i hnone
    refine ⟨firstRefusal_eq_none.mp hnone, ?_⟩
    unfold State.sideVerdict at h
    split at h
    case h_1 => cases h
    case h_2 hk =>
      cases h
      exact .fence hk
    case h_3 hk =>
      split at h
      · cases h
      · rename_i b hb
        obtain ⟨-, rfl⟩ := verdictOf_accepted.mp h
        exact .fill hk hb
    case h_4 hk =>
      split at h
      · rename_i a b ha hb
        obtain ⟨-, rfl⟩ := verdictOf_accepted.mp h
        exact .move hk ha hb
      · cases h

/-- Past check 4 a named side is not FREE (R43). -/
theorem named_notFree {s : State} {c : Command} {name : SurfaceName} {o : Origin} {d : NamedSide}
    (checks : ∀ k ∈ s.nameChecks c, k.refuses = false) (hn : (name, o) ∈ c.names) (hd : s.named name o = some d) :
    (s.surface d.index).state ≠ .free := by
  have h := checks _ (List.mem_cons_self ..)
  obtain ⟨-, hs, -⟩ := named_eq_some hd
  simp only [List.any_map, List.any_eq_false] at h
  simpa [hd, hs] using h _ hn

/-- A command that passes the checks names no FREE surface (R43). -/
theorem verdict_accepted_notFree {s : State} {c : Command} {e : Entry} (h : s.verdict c = .accepted e) :
    ∀ i ∈ e.surfaces, (s.surface i).state ≠ .free := by
  obtain ⟨checks, hentry⟩ := verdict_accepted h
  have names : ∀ k ∈ s.nameChecks c, k.refuses = false := fun k hk => checks k (List.mem_append_right _ hk)
  cases hentry with
  | fence => simp [Entry.surfaces, fenceEntry]
  | fill hk hb =>
    have hfree := named_notFree names (by simp [Command.names, hk]) hb
    simpa [Entry.surfaces, fillEntry, NamedSide.accepted] using hfree
  | @move a b hk ha hb =>
    have hsrc := named_notFree names (by simp [Command.names, hk]) ha
    have hdst := named_notFree names (by simp [Command.names, hk]) hb
    intro i hi
    have hi : i = a.index ∨ i = b.index := by
      simp only [Entry.surfaces, moveEntry, NamedSide.accepted] at hi
      split at hi
      · simp_all
      · simpa using hi
    rcases hi with rfl | rfl
    · exact hsrc
    · exact hdst

/-! ### What keeps the books keeps them through every command -/

section Keeps

variable {P : State → Prop} (K : EngineKeeps P) (s : State) (m : MoverIndex)

include K

/-- An update that leaves table, queue and movers alone. -/
theorem EngineKeeps.frame {s t : State} (h : P s) (hs : t.surfaces = s.surfaces) (hq : t.queue = s.queue)
    (hm : t.movers = s.movers) : P t :=
  K.books (.of_eq hs hq hm) h

theorem EngineKeeps.serveMover (h : P s) : P (s.serveMover m) := by
  unfold State.serveMover
  dsimp only
  split
  · rename_i t o ht _
    split
    · exact K.books (((appendRecord_books s _).setMover m Mover.idle).returnRefs t) (K.posted ht h)
    · exact h
  · exact h

theorem EngineKeeps.report {e : Entry} {q : List Entry} (hq : s.queue = e :: q) (o : Outcome) (h : P s) :
    P (s.report e o) := by
  have hq' : (s.appendRecord (dispatcherRecord e o)).queue = e :: q := by
    obtain ⟨_, hr⟩ := appendRecord_only s (dispatcherRecord e o)
    rw [hr]
    exact hq
  have hhead := removeHead_books (s.appendRecord (dispatcherRecord e o))
  rw [hq'] at hhead
  exact K.books (hhead.returnRefs e) (K.reported hq' (K.books (appendRecord_books s _) h))

theorem EngineKeeps.issue {e : Entry} {q : List Entry} (hq : s.queue = e :: q) (hm : (s.mover m).state = .idle) (h : P s) :
    P (s.issue e m) := by
  have hhead := removeHead_books s
  rw [hq] at hhead
  have htaken : P (s.removeHead.setMover m (Mover.take e)) := K.books (hhead.setMover m _) (K.issued hq hm h)
  unfold State.issue
  dsimp only
  split
  · exact K.books (startUnit_books _ m) htaken
  · exact K.books (bind_books _ m _) htaken

theorem EngineKeeps.examine (h : P s) : P s.examine :=
  examineHead_keeps P (fun s _ _ o h _ hq _ _ => K.report s hq o h)
    (fun s _ _ m h _ hq hd => K.issue s m hq (decision_issue_idle hd) h)
    (fun _ _ _ h _ _ _ => K.frame h rfl rfl rfl) _ s h

theorem EngineKeeps.settle (h : P s) : P s.settle :=
  K.examine _ (K.serveMover _ 1 (K.serveMover s 0 h))

theorem EngineKeeps.endTransfer (o : Outcome) (f : Option FaultItem) (h : P s) : P (s.endTransfer m o f) :=
  K.settle _ (K.books (finish_books s m o f) h)

theorem EngineKeeps.unitComplete (h : P s) : P (s.unitComplete m) := by
  unfold State.unitComplete
  dsimp only
  split
  · exact h
  · rename_i t _
    have hcount : P (s.setMover m ((s.mover m).counted (s.unitElements t (s.mover m).position))) :=
      K.books (setMover_items_books s m _ rfl rfl) h
    have hnext := K.books (setMover_items_books _ m (Mover.advanced _) rfl rfl) hcount
    split
    · exact K.endTransfer _ m _ _ hcount
    · split
      · exact K.endTransfer _ m _ _ hcount
      · split
        · exact K.books (startUnit_books _ m) hnext
        · split
          · exact K.endTransfer _ m _ _ hcount
          · exact K.books (burstContinues_books _ m _) hnext

theorem EngineKeeps.startWrite (h : P s) : P (s.startWrite m) := by
  unfold State.startWrite
  dsimp only
  split
  · exact h
  · rename_i t _
    have hcompared : P (s.setMover m ((s.mover m).compared
        ((elementsOf (s.elementBytes t) (s.mover m).buffer).countP (s.skips t)))) :=
      K.books (setMover_items_books s m _ rfl rfl) h
    split
    · exact K.unitComplete _ m hcompared
    · exact K.books (launch_books _ m _) hcompared

theorem EngineKeeps.continueSide (h : P s) : P (s.continueSide m) := by
  unfold State.continueSide
  dsimp only
  split
  · exact K.books (launch_books s m _) h
  · split
    · exact K.startWrite s m h
    · exact K.unitComplete s m h

theorem EngineKeeps.moverFault (x : FaultItem) (h : P s) : P (s.moverFault m x) := by
  unfold State.moverFault
  split
  · exact h
  · exact K.endTransfer _ m _ _ (K.books (captureFault_books s _) h)

theorem EngineKeeps.endFromLine (n : LineIndex) (o : Outcome) (h : P s) : P (s.endFromLine n o) := by
  unfold State.endFromLine
  split
  · exact h
  · exact K.books (eitherOrder_books s _) (K.endTransfer s _ o none h)

theorem EngineKeeps.examineIf (b : Bool) (h : P s) : P (s.examineIf b) := by
  cases b
  · exact h
  · exact K.examine s h

theorem EngineKeeps.present (record : Vector Word 8) (h : P s) : P (s.present record) := by
  unfold State.present
  split
  · exact K.books (setReader_books s _) h
  · exact K.books (endList_books s _ _) h
  · rename_i e he
    have hacc : P (s.enqueue e) := K.accepted (verdict_accepted_notFree he) h
    have hcount := K.books (setReader_books (s.enqueue e)
      { (s.enqueue e).reader with count := (s.enqueue e).reader.count + 1 }) hacc
    dsimp only
    split
    · exact K.examineIf _ _ (K.books (endList_books _ _ _) hcount)
    · exact K.books (requestBurst_books _ _ _) (K.examineIf _ _ (K.books (enterFetch_books _ _) hcount))

theorem EngineKeeps.presentAgain (h : P s) : P s.presentAgain := by
  unfold State.presentAgain
  split
  · split
    · exact h
    · exact K.books (eitherOrder_books s _) (K.present s _ h)
  · exact h

theorem EngineKeeps.postStaged (h : P s) : P s.postStaged := by
  unfold State.postStaged
  dsimp only
  split
  · exact K.frame h rfl rfl rfl
  · rename_i e he
    exact K.examineIf _ _ (K.frame (K.accepted (verdict_accepted_notFree he) h) rfl rfl rfl)

theorem EngineKeeps.burstDone (r : Requester) (h : P s) : P (s.burstDone r) := by
  cases r
  · exact K.continueSide s _ h
  · exact K.present s _ h

theorem EngineKeeps.burstFailed (r : Requester) (w : Bool) (b : Beat) (h : P s) : P (s.burstFailed r w b) := by
  cases r
  · exact K.moverFault s _ _ h
  · exact K.books (endList_books s _ _) h

theorem EngineKeeps.completeBurst (g : Grant) (h : P s) : P (s.completeBurst g) := by
  have hfree : P s.releasePort := K.books (releasePort_books s) h
  unfold State.completeBurst
  dsimp only
  split
  · exact K.books (eitherOrder_books _ _) (K.burstDone _ _ hfree)
  · exact hfree

theorem EngineKeeps.answerBeat (d : Word) (h : P s) : P (s.answerBeat d) := by
  unfold State.answerBeat
  split
  · exact h
  · rename_i g _
    split
    · exact h
    · rename_i b rest _
      have htaken : P (if g.live then s.takeData g.owner g.burst.write b d else s) := by
        split
        · exact K.books (takeData_books s _ _ _ _) h
        · exact h
      dsimp only
      split
      · exact K.completeBurst _ g htaken
      · exact K.frame htaken rfl rfl rfl

theorem EngineKeeps.failBeat (h : P s) : P s.failBeat := by
  have hfree : P s.releasePort := K.books (releasePort_books s) h
  unfold State.failBeat
  split
  · exact h
  · split
    · exact h
    · dsimp only
      split
      · exact K.burstFailed _ _ _ _ hfree
      · exact hfree

theorem EngineKeeps.popCompletion (h : P s) : P s.popCompletion := by
  unfold State.popCompletion
  split
  · exact K.frame h rfl rfl rfl
  · rename_i rest _
    have hrest : P { s with completions := rest } := K.frame h rfl rfl rfl
    dsimp only
    split
    · exact hrest
    · exact K.books (eitherOrder_books s _) (K.settle _ hrest)

theorem EngineKeeps.abortByTag (tag : Tag) (h : P s) : P (s.abortByTag tag) := by
  have hmark : BooksKept s { s with queue := s.queue.map (Entry.mark tag) } := by
    refine ⟨rfl, ?_, fun _ => rfl, fun _ => id⟩
    rw [List.map_map]
    refine List.map_congr_left fun e _ => ?_
    simp only [Function.comp_apply, Entry.mark]
    split <;> rfl
  have hstop := K.books ((hmark.trans (stopMover_books _ 0 tag)).trans (stopMover_books _ 1 tag)) h
  unfold State.abortByTag
  dsimp only
  refine K.books (result_books _ _ _) ?_
  split
  · exact hstop
  · exact K.books (eitherOrder_books s _) (K.settle _ hstop)

theorem EngineKeeps.resumeDispatch (h : P s) : P s.resumeDispatch := by
  unfold State.resumeDispatch
  split
  · exact K.books ((eitherOrder_books s _).trans (result_books _ _ _)) (K.examine _ (K.frame h rfl rfl rfl))
  · exact K.books (result_books s _ _) h

/-- Entry by entry, a flushed queue is one of reported heads. -/
theorem EngineKeeps.flushed :
    ∀ (q : List Entry) (s : State), P { s with queue := q } → P { q.foldl State.returnRefs s with queue := [] }
  | [], _, h => h
  | e :: q, s, h => by
    refine EngineKeeps.flushed q (s.returnRefs e) (K.books ?_ (K.reported (e := e) (q := q) rfl h))
    refine ⟨surfaces_ext fun i => ?_, ?_, fun m => ?_, fun m => ?_⟩
    · show (s.returnRefs e).surface i = _
      rw [returnRefs_surface, returnRefs_surface]
      rfl
    · rw [returnRefs_queue]
    · show ((s.returnRefs e).mover m).transfer = _
      rw [mover_congr (returnRefs_movers s e), mover_congr (returnRefs_movers _ e)]
      rfl
    · show ((s.returnRefs e).mover m).state = .idle → _
      rw [mover_congr (returnRefs_movers s e), mover_congr (returnRefs_movers _ e)]
      exact id

theorem EngineKeeps.flushQueue (h : P s) : P s.flushQueue := by
  have hflushed := K.flushed s.queue s h
  unfold State.flushQueue
  dsimp only
  exact K.books ((stopList_books _).trans ((raiseIf_books _ _ _).trans (result_books _ _ _)))
    (K.frame hflushed rfl rfl rfl)

theorem EngineKeeps.startList (h : P s) : P s.startList := by
  unfold State.startList
  split
  · exact K.books (result_books s _ _) h
  · split
    · exact K.books (result_books s _ _) h
    · dsimp only
      exact K.books ((requestBurst_books _ _ _).trans (result_books _ _ _)) (K.frame h rfl rfl rfl)

theorem EngineKeeps.stopListCommand (h : P s) : P s.stopListCommand := by
  unfold State.stopListCommand
  split
  · exact K.books (result_books s _ _) h
  all_goals exact K.books ((stopList_books s).trans (result_books _ _ _)) h

end Keeps

end Sys2Proof.Machine
end

section
/-! The commands that edit the surface table: DEFINE with the checks of Table 4-5, RELEASE, and the resets. With them, every
command: what keeps the books keeps them through it. -/

namespace Sys2Proof.Machine

open Sys2Proof.Safety

/-! ### Every command -/

theorem writePlain_books (s : State) (offset : Offset) (v : Word) : BooksKept s (s.writePlain offset v) := by
  unfold State.writePlain
  dsimp only
  repeat' split
  all_goals exact .of_eq rfl rfl rfl

theorem unlessReset_keeps {P : State → Prop} {s t : State} (h : P s) (k : P t) : P (s.unlessReset t) := by
  unfold State.unlessReset
  split
  · exact h
  · exact k

theorem setRequest_books (s : State) (n : LineIndex) (b : Bool) : BooksKept s (s.setRequest n b) := setLine_books s n _

theorem requestRises_books (s : State) (n : LineIndex) : BooksKept s (s.requestRises n) := by
  unfold State.requestRises
  dsimp only
  split
  · exact (setRequest_books s n true).trans (admitBurst_books _ _ n)
  · exact setRequest_books s n true

theorem requestFalls_books (s : State) (n : LineIndex) : BooksKept s (s.requestFalls n) := by
  unfold State.requestFalls
  dsimp only
  split
  · exact (setRequest_books s n false).trans (setLine_books _ n _)
  · exact setRequest_books s n false

theorem timeTick_books (s : State) : BooksKept s s.timeTick := by
  unfold State.timeTick
  split
  · exact .refl s
  · exact .of_eq rfl rfl rfl

theorem writeStatus_books (s : State) (v : Word) : BooksKept s (s.writeStatus v) := by
  unfold State.writeStatus
  split
  · exact .of_eq rfl rfl rfl
  · exact .refl s

theorem leaveReset_books (s : State) : BooksKept s s.leaveReset := by
  unfold State.leaveReset
  split
  · exact .of_eq rfl rfl rfl
  · exact .refl s

/-- An unknown code leaves the books alone (R167). -/
theorem control_unknown {code : BitVec 4} (h : unknownCode code = true) (s : State) (operand : BitVec 8) :
    s.control code operand = s.unknownControl := by
  simp only [unknownCode, Bool.or_eq_true, decide_eq_true_eq] at h
  unfold State.control
  split
  case h_9 => rfl
  all_goals omega

/-- A write of a register without a row of its own. -/
theorem writeWord_plain {offset : Offset} (h : hasOwnRow offset = false) (s : State) (v : Word) :
    s.writeWord offset v = s.writePlain offset v := by
  unfold State.writeWord
  split
  case h_9 => rfl
  all_goals
    rename_i ho
    simp [hasOwnRow, ho] at h

/-- A well-formed command keeps what the engine's own work keeps, where the commands that edit the surface table keep it. -/
theorem EngineKeeps.exec {P : State → Prop} (K : EngineKeeps P) {i : Instr} {s t : State} (hw : i.wellFormed = true)
    (he : exec i s = .next t) (h : P s) (define : ∀ k, i = .define k → P (s.defineSurface k))
    (release : ∀ k, P (s.releaseSurface k)) (engineReset : P s.resetEngine) (fullReset : i = .fullReset → P s.resetFull) :
    P t := by
  cases i <;> cases next_inj he
  case define k => exact unlessReset_keeps h (define k rfl)
  case release k => exact unlessReset_keeps h (release k)
  case resume => exact unlessReset_keeps h (K.resumeDispatch s h)
  case flush => exact unlessReset_keeps h (K.flushQueue s h)
  case abortTag tag => exact unlessReset_keeps h (K.abortByTag s tag h)
  case listStart => exact unlessReset_keeps h (K.startList s h)
  case listStop => exact unlessReset_keeps h (K.stopListCommand s h)
  case engineReset => exact unlessReset_keeps h engineReset
  case unknownCommand code operand =>
    rw [control_unknown hw]
    exact unlessReset_keeps h (K.books (result_books s _ _) h)
  case post => exact unlessReset_keeps h (K.postStaged s h)
  case completionPop => exact unlessReset_keeps h (K.popCompletion s h)
  case intCauseWrite v => exact unlessReset_keeps h (K.frame h rfl rfl rfl)
  case intEnableWrite v => exact unlessReset_keeps h (K.frame h rfl rfl rfl)
  case freedSetWrite v => exact unlessReset_keeps h (K.frame h rfl rfl rfl)
  case statusWrite v => exact unlessReset_keeps h (K.books (writeStatus_books s v) h)
  case timeBaseWrite v => exact unlessReset_keeps h (K.frame h rfl rfl rfl)
  case registerWrite offset v =>
    rw [writeWord_plain (by simpa [Instr.wellFormed] using hw)]
    exact unlessReset_keeps h (K.books (writePlain_books s _ _) h)
  case nonWordAccess access offset enables =>
    have henables : ¬ enables = 15#4 := by simpa [Instr.wellFormed] using hw
    rw [if_neg henables]
    exact unlessReset_keeps h (K.frame h rfl rfl rfl)
  case fullReset => exact fullReset rfl
  case resetRelease => exact K.books (leaveReset_books s) h
  case preqActive n =>
    split
    · exact K.books (setRequest_books s n true) h
    · exact K.books (requestRises_books s n) h
  case preqInactive n =>
    split
    · exact K.books (setRequest_books s n false) h
    · exact K.books (requestFalls_books s n) h
  case pendFall n =>
    refine unlessReset_keeps h ?_
    unfold State.endEdge
    split
    · exact h
    · exact K.books (setLine_books s n _) h
    all_goals exact K.endFromLine s n _ h
  case tick => exact unlessReset_keeps h (K.books (timeTick_books s) h)
  case timerExpiry n =>
    refine unlessReset_keeps h ?_
    unfold State.timerExpires
    split
    · exact K.endFromLine s n _ h
    · exact h
  case beatAnswered d => exact unlessReset_keeps h (K.answerBeat s d h)
  case beatError => exact unlessReset_keeps h (K.failBeat s h)
  case waitSpacePresentation => exact unlessReset_keeps h (K.presentAgain s h)

/-- A property of each surface that lost and new references keep. -/
theorem table_engineKeeps (Q : SurfaceIndex → Surface → Prop) (returns : ∀ i f n, Q i f → Q i (f.afterReturns n))
    (refs : ∀ i f n, Q i f → Q i (f.withRefs n)) : EngineKeeps fun s => ∀ i, Q i (s.surface i) where
  books hb h i := by
    rw [surface_congr hb.surfaces]
    exact h i
  reported _ h i := by
    rw [returnRefs_surface]
    exact returns i _ _ (h i)
  posted _ h i := by
    rw [returnRefs_surface]
    exact returns i _ _ (h i)
  issued _ _ h := h
  accepted _ h i := by
    show Q i ((State.addRefs _ _).surface i)
    rw [addRefs_surface]
    exact refs i _ _ (h i)

/-! ### RELEASE and the resets, surface by surface -/

/-- What RELEASE can do to an entry: nothing, or another state for a DEFINED one (R13). -/
theorem releaseSurface_surface (s : State) (k : BitVec 8) (i : SurfaceIndex) :
    (s.releaseSurface k).surface i = s.surface i
      ∨ (s.surface i).state = .defined ∧ (s.surface i).refcount = 0
          ∧ (s.releaseSurface k).surface i = { s.surface i with state := .free }
      ∨ (s.surface i).state = .defined ∧ (s.surface i).refcount ≠ 0
          ∧ (s.releaseSurface k).surface i = { s.surface i with state := .draining } := by
  unfold State.releaseSurface
  split
  · exact .inl rfl
  · rename_i j _
    dsimp only
    split
    · exact .inl rfl
    · rename_i hd
      by_cases hi : i = j
      · subst hi
        split
        · rename_i hr
          exact .inr (.inl ⟨hd, hr, by simp⟩)
        · rename_i hr
          exact .inr (.inr ⟨hd, hr, by simp⟩)
      · split
        · exact .inl (free_surface_ne s j hi)
        · exact .inl (setSurface_surface_ne s hi _)
    · exact .inl rfl

theorem resetEngine_surface (s : State) (i : SurfaceIndex) : s.resetEngine.surface i = (s.surface i).engineReset := by
  simp [State.resetEngine, State.surface, State.result]

theorem resetFull_surface (s : State) (i : SurfaceIndex) : s.resetFull.surface i = Surface.reset := by
  simp [State.resetFull, State.surface, State.reset]

/-! ### DEFINE by the checks of Table 4-5 -/

theorem firstDefineRefusal_nil : firstDefineRefusal [] = none := rfl

theorem firstDefineRefusal_cons (k : DefineCheck) (ks : List DefineCheck) :
    firstDefineRefusal (k :: ks) = if k.refuses = true then some k.code else firstDefineRefusal ks := by
  cases h : k.refuses <;> simp [firstDefineRefusal, h]

/-- An aligned element that starts in the address space ends there. -/
theorem aligned_within {es base : Nat} (hes : ElementSizeLegal es) (hbase : base < 2 ^ 32) (h : base % es = 0) :
    base + es - 1 ≤ 0xFFFFFFFF := by
  rcases hes with rfl | rfl | rfl <;> omega

/-! ### The staged extents and pitches, with the values of Table 4-2 for those that the shape does not use. -/

abbrev Staged.yUsed (d : Staged) : Nat := if HasRows d.shape then d.yExtent.toNat else 1
abbrev Staged.zUsed (d : Staged) : Nat := if d.shape = some .volume then d.zExtent.toNat else 1
abbrev Staged.rowUsed (d : Staged) : Nat := if HasRows d.shape then d.rowPitch.toNat else 0
abbrev Staged.sliceUsed (d : Staged) : Nat := if d.shape = some .volume then d.slicePitch.toNat else 0

section Checks

variable (d : Staged) (f : Surface)

theorem sizeCheck_iff (es : Nat) : (es != 1 && es != 2 && es != 4) = true ↔ ¬ ElementSizeLegal es := by
  simp only [Bool.and_eq_true, bne_iff_ne]
  omega

theorem extentCheck_iff (h : d.shape ≠ none) :
    (!d.extentsLegal) = true ↔
      d.shape ≠ some .port ∧ ¬ (1 ≤ d.xExtent.toNat ∧ d.xExtent.toNat ≤ 16384 ∧ 1 ≤ d.yUsed ∧ d.yUsed ≤ 16384
        ∧ 1 ≤ d.zUsed ∧ d.zUsed ≤ 1024) := by
  cases hs : d.shape with
  | none => exact absurd hs h
  | some sh => cases sh <;> simp [Staged.extentsLegal, hs, Staged.yUsed, Staged.zUsed, HasRows] <;> omega

theorem pitchCheck_iff :
    (!d.pitchesLegal) = true ↔
      (HasRows d.shape ∧ ¬ (d.rowUsed % d.elementSize.toNat = 0 ∧ d.xExtent.toNat * d.elementSize.toNat ≤ d.rowUsed))
      ∨ (d.shape = some .volume ∧ ¬ (d.sliceUsed % d.elementSize.toNat = 0 ∧ d.rowUsed * d.yUsed ≤ d.sliceUsed)) := by
  cases hs : d.shape with
  | none => simp [Staged.pitchesLegal, hs, HasRows]
  | some sh =>
    cases sh <;> simp [Staged.pitchesLegal, hs, Staged.yUsed, Staged.rowUsed, Staged.sliceUsed, HasRows] <;> tauto

theorem rangeCheck_iff (hes : ElementSizeLegal d.elementSize.toNat) (hbase : d.base.toNat % d.elementSize.toNat = 0)
    (h : d.shape ≠ none) :
    decide (0xFFFFFFFF < (d.store f).lastByte) = true ↔
      d.shape ≠ some .port ∧ 0xFFFFFFFF < lastByteOf d.elementSize.toNat d.base.toNat d.xExtent.toNat d.yUsed d.zUsed
        d.rowUsed d.sliceUsed := by
  have hport := aligned_within hes d.base.isLt hbase
  cases hs : d.shape with
  | none => exact absurd hs h
  | some sh =>
    cases sh <;>
      simp [Staged.store, Surface.lastByte, Surface.isPort, hs, lastByteOf, Staged.yUsed, Staged.zUsed, Staged.rowUsed,
        Staged.sliceUsed, HasRows]
    omega

theorem accessCheck_iff : (!d.readable && !d.writable) = true ↔ d.readable = false ∧ d.writable = false := by
  simp

theorem portCheck_iff :
    (if d.shape == some .port then decide (d.burst.toNat < 1) || decide (16 < d.burst.toNat) else d.bindingPresent) = true ↔
      (d.shape = some .port ∧ ¬ (1 ≤ d.burst.toNat ∧ d.burst.toNat ≤ 16))
      ∨ (d.shape ≠ some .port ∧ d.bindingPresent = true) := by
  by_cases hs : d.shape = some .port
  · simp [hs]
    omega
  · simp [hs]

end Checks
/-- A check of two parts is two checks of one code. -/
theorem ite_parts {p q r u : Prop} [Decidable p] [Decidable q] [Decidable r] [Decidable u] {α : Type} (a b : α) :
    (if (p ∧ q) ∨ (r ∧ u) then a else b) = if p ∧ q then a else if r ∧ u then a else b :=
  ite_or ..

/-- The checks that DEFINE makes are those of Table 4-5, in its order (R9, R10). -/
theorem firstDefineRefusal_eq (d : Staged) (f : Surface) : firstDefineRefusal (defineChecks d f) = defineRefusal d f := by
  unfold defineChecks defineRefusal
  simp only [firstDefineRefusal_cons, firstDefineRefusal_nil, sizeCheck_iff, pitchCheck_iff, accessCheck_iff, portCheck_iff,
    bne_iff_ne, Option.isNone_iff_eq_none, ite_parts]
  by_cases hshape : d.shape = none
  · simp only [hshape, if_true]
  · simp only [extentCheck_iff d hshape]
    by_cases hes : ElementSizeLegal d.elementSize.toNat
    · by_cases hbase : d.base.toNat % d.elementSize.toNat = 0
      · simp only [rangeCheck_iff d f hes hbase hshape]
      · simp only [hbase, ne_eq, not_false_eq_true, if_true]
    · simp only [hes, not_false_eq_true, if_true]

/-- One row of a table of checks passes, and then the rows below it. -/
theorem check_eq_none {α : Type} {p : Prop} [Decidable p] {a : α} {r : Option α} :
    (if p then some a else r) = none ↔ ¬ p ∧ r = none := by
  split <;> simp_all

/-- The stored extents and pitches of a memory surface, as numbers (Table 4-2). -/
theorem definedSurface_numbers {d : Staged} (f : Surface) (h : d.shape ≠ some .port) :
    (definedSurface d f).xExtent.toNat = d.xExtent.toNat ∧ (definedSurface d f).yExtent.toNat = d.yUsed
      ∧ (definedSurface d f).zExtent.toNat = d.zUsed ∧ (definedSurface d f).rowPitch.toNat = d.rowUsed
      ∧ (definedSurface d f).slicePitch.toNat = d.sliceUsed := by
  cases hs : d.shape with
  | none => simp [definedSurface, Staged.store, hs, Staged.yUsed, Staged.zUsed, Staged.rowUsed, Staged.sliceUsed, HasRows]
  | some sh =>
    cases sh <;>
      simp_all [definedSurface, Staged.store, Staged.yUsed, Staged.zUsed, Staged.rowUsed, Staged.sliceUsed, HasRows]

/-- A description that passes every check of Table 4-5 is a legal one (R10, R11). -/
theorem definedSurface_legal {d : Staged} {f : Surface} (h : defineRefusal d f = none) :
    DescriptorLegal (definedSurface d f) := by
  simp only [defineRefusal, check_eq_none] at h
  obtain ⟨-, hshape, hes, hextent, hrow, hslice, hbase, hrange, haccess, hburst, hbinding, -⟩ := h
  have extents (hs : d.shape ≠ some .port) := not_not.mp fun h => hextent ⟨hs, h⟩
  refine ⟨not_not.mp hes, not_not.mp hbase, ?access, hshape, ?port, ?memory, ?line, ?plane, ?rows, ?volume⟩
  case access =>
    show d.readable = true ∨ d.writable = true
    simpa only [not_and_or, Bool.not_eq_false] using haccess
  case port =>
    intro (hs : d.shape = some .port)
    have hlength := not_not.mp fun h => hburst ⟨hs, h⟩
    simp [definedSurface, Staged.store, hs, hlength]
  case memory =>
    intro (hs : d.shape ≠ some .port)
    obtain ⟨hx, hy, hz, hr, hsl⟩ := definedSurface_numbers f hs
    obtain ⟨hlow, hhigh, -⟩ := extents hs
    rw [hx, hy, hz, hr, hsl]
    exact ⟨by simp [definedSurface, Staged.store, hs], by simp [definedSurface, Staged.store, hs], hlow, hhigh,
      Nat.le_of_not_lt fun h => hrange ⟨hs, h⟩⟩
  case line =>
    intro (hs : d.shape = some .line)
    simp [definedSurface, Staged.store, hs]
  case plane =>
    intro (hs : d.shape = some .plane)
    simp [definedSurface, Staged.store, hs]
  case rows =>
    intro (hs : HasRows d.shape)
    have hport : d.shape ≠ some .port := by rcases hs with hs | hs <;> simp [hs]
    obtain ⟨hx, hy, hz, hr, hsl⟩ := definedSurface_numbers f hport
    obtain ⟨-, -, hlow, hhigh, -⟩ := extents hport
    rw [hx, hy, hr]
    exact ⟨hlow, hhigh, not_not.mp fun h => hrow ⟨hs, h⟩⟩
  case volume =>
    intro (hs : d.shape = some .volume)
    have hport : d.shape ≠ some .port := by simp [hs]
    obtain ⟨hx, hy, hz, hr, hsl⟩ := definedSurface_numbers f hport
    obtain ⟨-, -, -, -, hlow, hhigh⟩ := extents hport
    rw [hy, hz, hr, hsl]
    exact ⟨hlow, hhigh, not_not.mp fun h => hslice ⟨hs, h⟩⟩

/-- DEFINE of an index in range: refused by a check, or stored (R9, R11). -/
theorem defineSurface_eq {s : State} {k : BitVec 8} {i : SurfaceIndex} (h : surfaceIndex k.toNat = some i) :
    s.defineSurface k =
      match defineRefusal (decodeStaging s.surfaceStaging) (s.surface i) with
      | some code => s.result code 0
      | none =>
        (s.setSurface i (definedSurface (decodeStaging s.surfaceStaging) (s.surface i))).result .ok
          ((s.surface i).generation + 1).toNat := by
  unfold State.defineSurface
  rw [h, ← firstDefineRefusal_eq]
  rfl

/-- What DEFINE can do to an entry: nothing, or the staged description for a FREE one. -/
theorem defineSurface_surface (s : State) (k : BitVec 8) (i : SurfaceIndex) :
    (s.defineSurface k).surface i = s.surface i
      ∨ defineRefusal (decodeStaging s.surfaceStaging) (s.surface i) = none
          ∧ (s.defineSurface k).surface i = definedSurface (decodeStaging s.surfaceStaging) (s.surface i) := by
  cases hk : surfaceIndex k.toNat with
  | none =>
    left
    unfold State.defineSurface
    rw [hk]
    rfl
  | some j =>
    rw [defineSurface_eq hk]
    split
    · exact .inl rfl
    · rename_i hnone
      by_cases hi : i = j
      · subst hi
        exact .inr ⟨hnone, by simp⟩
      · exact .inl (setSurface_surface_ne s hi _)

end Sys2Proof.Machine
end

section
/-! The statements on the surface table: descriptions and generations (O8), legal descriptions (O9), exact reference counts
(O10). -/

namespace Sys2Proof.Machine

open Sys2Proof.Safety

/-! ### Descriptor and generation -/

/-- The descriptor fields and the generation of an entry: the entry with its life-cycle items blanked. -/
def Surface.description (f : Surface) : Surface :=
  { f with state := .free, refcount := 0 }

theorem sameDescription_iff {f g : Surface} : SameDescription f g ↔ g.description = f.description := by
  constructor
  · intro h
    rw [← h]
    rfl
  · intro h
    cases f
    cases g
    simp_all [SameDescription, Surface.description]

theorem described_engineKeeps (s : State) :
    EngineKeeps fun t => ∀ j, (t.surface j).description = (s.surface j).description :=
  table_engineKeeps (fun j f => f.description = (s.surface j).description) (fun _ _ _ h => h) (fun _ _ _ h => h)

/-- Settles O8: the engine's own work touches state and reference count alone, and so do RELEASE and ENGINE_RESET. -/
theorem onlyDefineDescribes : Obligations.OnlyDefineDescribes := by
  intro i s t hw he hdefine hfull j
  refine sameDescription_iff.mpr ?_
  have hrelease (k : BitVec 8) (j : SurfaceIndex) :
      ((s.releaseSurface k).surface j).description = (s.surface j).description := by
    rcases releaseSurface_surface s k j with h | ⟨-, -, h⟩ | ⟨-, -, h⟩ <;> rw [h] <;> rfl
  have hreset (j : SurfaceIndex) : (s.resetEngine.surface j).description = (s.surface j).description := by
    rw [resetEngine_surface]
    rfl
  exact (described_engineKeeps s).exec hw he (fun _ => rfl) (fun k hk => absurd hk (hdefine k)) hrelease hreset
    (fun hk => absurd hk hfull) j

/-! ### Legal descriptions -/

theorem legal_engineKeeps : EngineKeeps SurfacesLegal := by
  refine table_engineKeeps (fun _ f => f.state ≠ .free → DescriptorLegal f) (fun _ f n h hs => ?_) (fun _ _ _ h => h)
  refine h fun hfree => hs ?_
  simp [Surface.afterReturns, hfree]

/-- Settles O9: an entry leaves FREE by DEFINE alone, which has checked what it stores. -/
theorem descriptionsStayLegal : Obligations.DescriptionsStayLegal := by
  intro i s t h he
  obtain ⟨i', hw, hi'⟩ := exec_as_wellFormed i s
  refine legal_engineKeeps.exec hw (hi' ▸ he) h (fun k _ j => ?_) (fun k j => ?_) (fun j => ?_) (fun _ j => ?_)
  · rcases defineSurface_surface s k j with hk | ⟨hchecks, hk⟩
    · rw [hk]
      exact h j
    · rw [hk]
      exact fun _ => definedSurface_legal hchecks
  · rcases releaseSurface_surface s k j with hk | ⟨-, -, hk⟩ | ⟨hstate, -, hk⟩
    · rw [hk]
      exact h j
    · rw [hk]
      exact fun hfree => absurd rfl hfree
    · rw [hk]
      exact fun _ => h j (by simp [hstate])
  · rw [resetEngine_surface]
    refine fun hs => h j fun hfree => hs ?_
    simp [Surface.engineReset, hfree]
  · rw [resetFull_surface]
    exact fun hfree => absurd rfl hfree

/-! ### Reference counts -/

/-- How often a transfer that may be absent names a surface. -/
def heldBy (t : Option Entry) (i : SurfaceIndex) : Nat :=
  (t.map fun e => e.surfaces.count i).getD 0

/-- Entries that name a surface, counted by the references they hold. -/
theorem countP_names (q : List Entry) (i : SurfaceIndex) :
    q.countP (fun e => e.surfaces.contains i) = ((q.map Entry.surfaces).map (List.count i)).sum := by
  induction q with
  | nil => rfl
  | cons e q ih =>
    rw [List.countP_cons, ih, List.map_cons, List.map_cons, List.sum_cons, Entry.surfaces_count]
    by_cases h : i ∈ e.surfaces <;> simp [h, Nat.add_comm]

theorem holders_eq (s : State) (i : SurfaceIndex) :
    holders s i =
      ((s.queue.map Entry.surfaces).map (List.count i)).sum + heldBy (s.mover 0).transfer i + heldBy (s.mover 1).transfer i := by
  rw [holders, countP_names, countP_names, Nat.add_assoc]
  congr 1
  cases h0 : (s.mover 0).transfer <;> cases h1 : (s.mover 1).transfer <;> simp [State.inFlight, heldBy, h0, h1]

/-- Holders after the head has left the queue. -/
theorem holders_dequeue {s : State} {e : Entry} {q : List Entry} (hq : s.queue = e :: q) (i : SurfaceIndex) :
    holders { s with queue := q } i + e.surfaces.count i = holders s i := by
  simp only [holders_eq, hq, List.map_cons, List.sum_cons]
  show _ + heldBy (s.mover 0).transfer i + heldBy (s.mover 1).transfer i + _ = _
  omega

/-- Holders after a mover's transfer has been replaced. -/
theorem holders_setMover (s : State) (m : MoverIndex) (v : Mover) (i : SurfaceIndex) :
    holders (s.setMover m v) i + heldBy (s.mover m).transfer i = holders s i + heldBy v.transfer i := by
  simp only [holders_eq, setMover_queue]
  fin_cases m
  · simp
    omega
  · simp
    omega

theorem holders_of_books {s t : State} (h : BooksKept s t) (i : SurfaceIndex) : holders t i = holders s i := by
  rw [holders_eq, holders_eq, h.queue, h.transfer, h.transfer]

theorem holders_congr {s t : State} (hq : t.queue = s.queue) (hm : t.movers = s.movers) (i : SurfaceIndex) :
    holders t i = holders s i := by
  rw [holders_eq, holders_eq, hq, mover_congr hm, mover_congr hm]

theorem holders_returnRefs (s : State) (e : Entry) (i : SurfaceIndex) : holders (s.returnRefs e) i = holders s i :=
  holders_congr (returnRefs_queue s e) (returnRefs_movers s e) i

/-- Holders after a command has entered the queue. -/
theorem holders_enqueue (s : State) (e : Entry) (i : SurfaceIndex) :
    holders (s.enqueue e) i = holders s i + e.surfaces.count i := by
  have hm (m : MoverIndex) : (s.enqueue e).mover m = s.mover m := mover_congr (addRefs_movers s e) m
  rw [holders_eq, holders_eq, hm, hm]
  show (((s.queue ++ [e]).map _).map _).sum + _ + _ = _
  simp
  omega

/-- A command that has left the books and given back its references. -/
theorem lifeCycle_returns {s t : State} {e : Entry} (h : LifeCycleSound s)
    (hholders : ∀ i, holders t i + e.surfaces.count i = holders s i)
    (hsurface : ∀ i, t.surface i = (s.surface i).afterReturns (e.surfaces.count i))
    (hidle : ∀ m : MoverIndex, (t.mover m).state = .idle → (t.mover m).transfer = none) : LifeCycleSound t := by
  obtain ⟨hcount, hfree, hdraining, -⟩ := h
  refine ⟨fun i => ?_, fun i hs => ?_, fun i hs => ?_, hidle⟩
  all_goals
    have hc := hcount i
    have hh := hholders i
    rw [hsurface] at *
  · simp only [Surface.afterReturns]
    omega
  · simp only [Surface.afterReturns] at hs ⊢
    split at hs
    · omega
    · have := hfree i hs
      omega
  · simp only [Surface.afterReturns] at hs ⊢
    split at hs
    · cases hs
    · rename_i hn
      have := hdraining i hs
      simp only [hs, true_and, not_and, not_le] at hn
      omega

theorem lifeCycle_engineKeeps : EngineKeeps LifeCycleSound where
  books := by
    rintro s t hb ⟨hcount, hfree, hdraining, hidle⟩
    have hs (i : SurfaceIndex) : t.surface i = s.surface i := surface_congr hb.surfaces i
    refine ⟨fun i => ?_, fun i => ?_, fun i => ?_, fun m hm => ?_⟩
    · rw [hs, holders_of_books hb, hcount]
    · rw [hs]
      exact hfree i
    · rw [hs]
      exact hdraining i
    · rw [hb.transfer]
      exact hidle m (hb.idle m hm)
  reported := by
    intro s e q hq h
    obtain ⟨-, -, -, hidle⟩ := id h
    refine lifeCycle_returns (e := e) h (fun i => ?_) (fun i => ?_) (fun m => ?_)
    · rw [holders_returnRefs]
      exact holders_dequeue hq i
    · exact foldl_returnRef_surface i _ _
    · rw [mover_congr (returnRefs_movers _ _)]
      exact hidle m
  posted := by
    intro s m e he h
    obtain ⟨-, -, -, hidle⟩ := id h
    refine lifeCycle_returns (e := e) h (fun i => ?_) (fun i => ?_) (fun k => ?_)
    · have hset := holders_setMover s m Mover.idle i
      rw [holders_returnRefs]
      simpa [heldBy, he, Mover.idle] using hset
    · exact foldl_returnRef_surface i _ _
    · rw [mover_congr (returnRefs_movers _ _)]
      by_cases hk : k = m
      · subst hk
        simp [Mover.idle]
      · rw [setMover_mover_ne s hk]
        exact hidle k
  issued := by
    rintro s e q m hq hm ⟨hcount, hfree, hdraining, hidle⟩
    refine ⟨fun i => ?_, hfree, hdraining, fun k => ?_⟩
    · have hset := holders_setMover { s with queue := q } m (Mover.take e) i
      have hhead := holders_dequeue hq i
      have hnone : heldBy (State.mover { s with queue := q } m).transfer i = 0 := by
        show heldBy (s.mover m).transfer i = 0
        rw [hidle m hm]
        rfl
      have htake : heldBy (Mover.take e).transfer i = e.surfaces.count i := rfl
      show (s.surface i).refcount = _
      rw [hcount]
      omega
    · by_cases hk : k = m
      · subst hk
        rw [setMover_mover]
        simp only [Mover.take]
        split <;> nofun
      · rw [setMover_mover_ne _ hk]
        exact hidle k
  accepted := by
    rintro s e hnames ⟨hcount, hfree, hdraining, hidle⟩
    have hs (i : SurfaceIndex) : (s.enqueue e).surface i = (s.surface i).withRefs (e.surfaces.count i) :=
      foldl_addRef_surface i _ _
    refine ⟨fun i => ?_, fun i hi => ?_, fun i hi => ?_, fun m => ?_⟩
    · rw [hs, holders_enqueue, ← hcount]
      rfl
    · rw [hs] at hi ⊢
      have hnot : i ∉ e.surfaces := fun hmem => hnames i hmem hi
      rw [List.count_eq_zero_of_not_mem hnot]
      exact hfree i hi
    · rw [hs] at hi ⊢
      exact Nat.lt_of_lt_of_le (hdraining i hi) (Nat.le_add_right _ _)
    · rw [show (s.enqueue e).mover m = s.mover m from mover_congr (addRefs_movers s e) m]
      exact hidle m

/-- The tables' entries change one by one, with queue and transfers as they were. -/
theorem lifeCycle_of_surfaces {s t : State} (h : LifeCycleSound s) (hq : t.queue = s.queue) (hm : t.movers = s.movers)
    (hsurface : ∀ i, t.surface i = s.surface i ∨
      ((t.surface i).refcount = (s.surface i).refcount
        ∧ ((t.surface i).state = .free → (t.surface i).refcount = 0)
        ∧ ((t.surface i).state = .draining → 0 < (t.surface i).refcount))) : LifeCycleSound t := by
  obtain ⟨hcount, hfree, hdraining, hidle⟩ := h
  refine ⟨fun i => ?_, fun i hi => ?_, fun i hi => ?_, fun m => ?_⟩
  · rw [holders_congr hq hm, ← hcount]
    rcases hsurface i with hs | ⟨hs, -, -⟩
    · rw [hs]
    · exact hs
  · rcases hsurface i with hs | ⟨-, hs, -⟩
    · rw [hs] at hi ⊢
      exact hfree i hi
    · exact hs hi
  · rcases hsurface i with hs | ⟨-, -, hs⟩
    · rw [hs] at hi ⊢
      exact hdraining i hi
    · exact hs hi
  · rw [mover_congr hm]
    exact hidle m

/-- No command is held: no reference is, and no entry is DRAINING. -/
theorem lifeCycle_of_empty {t : State} (hq : t.queue = []) (hm : ∀ m, t.mover m = Mover.idle)
    (hsurface : ∀ i, (t.surface i).refcount = 0 ∧ (t.surface i).state ≠ .draining) : LifeCycleSound t := by
  refine ⟨fun i => ?_, fun i _ => (hsurface i).1, fun i hi => absurd hi (hsurface i).2, fun m _ => by rw [hm m]; rfl⟩
  rw [(hsurface i).1, holders_eq, hq, hm, hm]
  rfl

/-- RELEASE and DEFINE leave queue and movers alone. -/
theorem releaseSurface_holds (s : State) (k : BitVec 8) :
    (s.releaseSurface k).queue = s.queue ∧ (s.releaseSurface k).movers = s.movers := by
  unfold State.releaseSurface
  dsimp only
  repeat' split
  all_goals exact ⟨rfl, rfl⟩

theorem defineSurface_holds (s : State) (k : BitVec 8) :
    (s.defineSurface k).queue = s.queue ∧ (s.defineSurface k).movers = s.movers := by
  unfold State.defineSurface
  dsimp only
  repeat' split
  all_goals exact ⟨rfl, rfl⟩

/-- Settles O10: each acceptance takes, and each record and each FLUSH gives back, one reference for each surface that the
command names. -/
theorem referencesStayExact : Obligations.ReferencesStayExact := by
  intro i s t h he
  obtain ⟨hcount, hfree, hdraining, hidle⟩ := id h
  obtain ⟨i', hw, hi'⟩ := exec_as_wellFormed i s
  refine lifeCycle_engineKeeps.exec hw (hi' ▸ he) h (fun k _ => ?define) (fun k => ?release) ?engineReset (fun _ => ?fullReset)
  case define =>
    obtain ⟨hq, hm⟩ := defineSurface_holds s k
    refine lifeCycle_of_surfaces h hq hm fun j => ?_
    rcases defineSurface_surface s k j with hk | ⟨hchecks, hk⟩
    · exact .inl hk
    · right
      simp only [defineRefusal, check_eq_none, not_not] at hchecks
      rw [hk, hfree j hchecks.1]
      exact ⟨rfl, fun _ => rfl, nofun⟩
  case release =>
    obtain ⟨hq, hm⟩ := releaseSurface_holds s k
    refine lifeCycle_of_surfaces h hq hm fun j => ?_
    rcases releaseSurface_surface s k j with hk | ⟨-, hzero, hk⟩ | ⟨-, hsome, hk⟩
    · exact .inl hk
    · rw [hk]
      exact .inr ⟨rfl, fun _ => hzero, nofun⟩
    · rw [hk]
      exact .inr ⟨rfl, nofun, fun _ => Nat.pos_of_ne_zero hsome⟩
  case engineReset =>
    refine lifeCycle_of_empty rfl (fun m => ?_) fun j => ?_
    · simp [State.resetEngine, State.result, State.mover]
    · rw [resetEngine_surface]
      refine ⟨rfl, ?_⟩
      simp only [Surface.engineReset]
      split
      · nofun
      · assumption
  case fullReset =>
    refine lifeCycle_of_empty rfl (fun m => ?_) fun j => ?_
    · simp [State.resetFull, State.reset, State.mover]
    · rw [resetFull_surface]
      exact ⟨rfl, nofun⟩

end Sys2Proof.Machine
end

section
/-! The statements on DEFINE (O5, O6), RELEASE (O7), FLUSH (O24) and ENGINE_RESET (O56): the exact next state of each. -/

namespace Sys2Proof.Machine

open Sys2Proof.Safety

/-! ### DEFINE -/

/-- With RESETn high DEFINE runs. -/
theorem exec_define {s : State} (h : s.inReset = false) (k : BitVec 8) :
    exec (.define k) s = .next (s.defineSurface k) :=
  congrArg _ (unlessReset_high h _)

/-- The kept bytes of the key (R6). -/
theorem lowBytes_eq (n : Nat) (w : Word) : lowBytes n w = BitVec.ofNat 32 (w.toNat % 256 ^ n) := by
  rw [lowBytes, Nat.pow_mul]

/-- Settles O5. -/
theorem defineStoresDescription : Obligations.DefineStoresDescription := by
  intro s i hs d hnone
  have hshape : d.shape ≠ none := by
    have h := hnone
    simp only [defineRefusal, check_eq_none] at h
    exact h.2.1
  refine ⟨definedSurface d (s.surface i), ?_, rfl, rfl, rfl, rfl, rfl, rfl, rfl, rfl, ?fields⟩
  case fields =>
    have hkey : (definedSurface d (s.surface i)).key =
        if d.keyPresent then some (BitVec.ofNat 32 (d.key.toNat % 256 ^ d.elementSize.toNat)) else none := by
      rw [← lowBytes_eq]
      rfl
    cases hd : d.shape with
    | none => exact absurd hd hshape
    | some sh => cases sh <;> simp [hkey] <;> simp [definedSurface, Staged.store, hd, HasRows]
  rw [exec_define hs, defineSurface_eq (surfaceIndex_operand i), hnone]
  rfl

/-- Settles O6. -/
theorem defineRefusedInOrder : Obligations.DefineRefusedInOrder := by
  intro s hs
  refine ⟨fun index h => ?_, fun i code h => ?_⟩
  · rw [exec_define hs, State.defineSurface, surfaceIndex_of_ge h]
    rfl
  · rw [exec_define hs, defineSurface_eq (surfaceIndex_operand i), h]
    rfl

/-! ### RELEASE -/

/-- Settles O7, by the state of the entry. -/
theorem releaseByState : Obligations.ReleaseByState := by
  intro s hs
  have hexec (k : BitVec 8) : exec (.release k) s = .next (s.releaseSurface k) := congrArg _ (unlessReset_high hs _)
  refine ⟨fun index h => ?_, fun i => ⟨fun hf => ?free, fun hd hzero => ?unused, fun hd hused => ?used, fun hd => ?draining⟩⟩
  · rw [hexec, State.releaseSurface, surfaceIndex_of_ge h]
    rfl
  case free =>
    rw [hexec, State.releaseSurface, surfaceIndex_operand]
    simp only [hf]
    rfl
  case unused =>
    rw [hexec, State.releaseSurface, surfaceIndex_operand]
    simp only [hd]
    rw [if_pos hzero]
    rfl
  case used =>
    rw [hexec, State.releaseSurface, surfaceIndex_operand]
    simp only [hd, Nat.pos_iff_ne_zero.mp hused, if_false]
    rfl
  case draining =>
    rw [hexec, State.releaseSurface, surfaceIndex_operand]
    simp only [hd]
    rfl

/-! ### FLUSH -/

/-- The references of a whole queue, returned one by one. -/
theorem foldl_returnRefs (q : List Entry) (s : State) :
    q.foldl State.returnRefs s = (q.flatMap Entry.surfaces).foldl State.returnRef s :=
  List.foldl_flatMap.symm

/-- How often the entries of a queue name a surface. -/
theorem count_names (q : List Entry) (i : SurfaceIndex) :
    (q.flatMap Entry.surfaces).count i = q.countP fun e => e.surfaces.contains i := by
  rw [countP_names, List.count_flatMap, List.map_map]

/-- A requester gone from a burst in progress: the burst goes on without it (R143, R179). -/
theorem disown_eq (s : State) (r : Requester) :
    s.disown r = { s with grant := s.grant.map fun g => { g with live := g.live && g.owner != r } } := by
  have same (gr : Option Grant) (h : s.grant = gr) : s = { s with grant := gr } := by
    subst h
    rfl
  unfold State.disown
  split
  · rename_i g hg
    by_cases ho : g.owner = r
    · simp [hg, ho]
    · have hne : (g.owner != r) = true := by simpa using ho
      simpa [hg, ho, hne] using same _ hg
  · rename_i hg
    simpa [hg] using same _ hg

/-- A list that is stopped, item by item (R143). -/
theorem stopList_eq (s : State) :
    s.stopList =
      { s with
        causes := if s.reader.state = .idle then s.causes else s.causes ||| Cause.list.mask
        reader :=
          if s.reader.state = .idle then s.reader
          else { s.reader with
            state := .idle, fetched := [], inHand := none, due := false, request := none
            endReason := .stopped, refusal := none, stopAddress := s.reader.current }
        grant :=
          if s.reader.state = .idle then s.grant
          else s.grant.map fun g => { g with live := g.live && g.owner != .reader } } := by
  unfold State.stopList
  split <;> rename_i h <;> simp only [h, if_true, reduceCtorEq, if_false]
  all_goals
    rw [disown_eq]
    rfl

theorem stopList_causeSet (s : State) (k : Cause) :
    s.stopList.causeSet k = (s.causeSet k || (k == .list && s.reader.state != .idle)) := by
  rw [stopList_eq]
  by_cases h : s.reader.state = .idle
  · simp [State.causeSet, h]
  · have hne : (s.reader.state != .idle) = true := by simpa using h
    simp only [State.causeSet, h, if_false, BitVec.getLsbD_or, mask_bit, hne, Bool.and_true]

/-- The device after a FLUSH has returned the references, before the list stops. -/
def flushed (s : State) : State :=
  { s.queue.foldl State.returnRefs s with queue := [] }.setWait .none false

/-- Settles O24: the queue's references come back one by one, and the list stops. -/
theorem flushEmptiesQueue : Obligations.FlushEmptiesQueue := by
  intro s hs gone frees
  have hgone (i : SurfaceIndex) : (s.queue.flatMap Entry.surfaces).count i = gone i := count_names s.queue i
  have hfrees (i : SurfaceIndex) : ReturnsFree s (s.queue.flatMap Entry.surfaces) i ↔ frees i := by
    unfold ReturnsFree
    rw [hgone]
  obtain ⟨table, freed, causes, hfold⟩ := foldl_refsOnly _ returnRefs_refsOnly s.queue s
  have hfold' := (foldl_returnRefs s.queue s).symm.trans hfold
  refine ⟨table, freed, s.flushQueue.causes, ?_, fun i => ?_, fun i => ?_, fun k => ?_⟩
  · obtain ⟨raised, hraise⟩ := raiseIf_causes_only (flushed s).stopList (s.freeSlots < s.lowWater) .lowWater
    have hcauses : s.flushQueue.causes = raised := by
      show ((flushed s).stopList.raiseIf _ _).causes = _
      rw [hraise]
    refine (congrArg _ (unlessReset_high hs _)).trans (congrArg _ ?_)
    rw [hcauses]
    show ((flushed s).stopList.raiseIf _ _).result _ _ = _
    rw [hraise, stopList_eq, flushed, hfold]
    rfl
  · have h := foldl_returnRef_surface i (s.queue.flatMap Entry.surfaces) s
    rw [hfold', hgone] at h
    exact h
  · have h := foldl_returnRef_freedSet i (s.queue.flatMap Entry.surfaces) s
    rw [hfold', decide_eq_decide.mpr (hfrees i)] at h
    exact h
  · have h := foldl_returnRef_causeSet k (s.queue.flatMap Entry.surfaces) s
    rw [← foldl_returnRefs, decide_eq_decide.mpr (exists_congr hfrees)] at h
    show ((flushed s).stopList.raiseIf (s.freeSlots < s.lowWater) .lowWater).causeSet k = _
    rw [raiseIf_causeSet, stopList_causeSet]
    show ((s.queue.foldl State.returnRefs s).causeSet k || (k == .list && (flushed s).reader.state != .idle) || _) = _
    rw [h, show (flushed s).reader = s.reader by rw [flushed, hfold]; rfl]
    simp only [State.freeSlots, Config.queueCapacity]
    ac_rfl

/-! ### ENGINE_RESET -/

/-- A set of bits gathered over a list of entries. -/
theorem foldl_bits (p : SurfaceIndex → Prop) [DecidablePred p] (i : SurfaceIndex) :
    ∀ (l : List SurfaceIndex) (set : BitVec 24),
      (l.foldl (fun set j => if p j then set ||| (1#24 <<< j.val) else set) set).getLsbD i.val =
        (set.getLsbD i.val || decide (i ∈ l ∧ p i))
  | [], set => by simp
  | j :: l, set => by
    rw [List.foldl_cons, foldl_bits p i l]
    by_cases hp : p j
    · rw [if_pos hp, BitVec.getLsbD_or, freedBit]
      by_cases hj : j = i
      · subst hj
        simp [hp]
      · simp [hj, Ne.symm hj]
    · rw [if_neg hp]
      by_cases hj : j = i
      · subst hj
        simp [hp]
      · simp [Ne.symm hj]

theorem drainingSet_bit (s : State) (i : SurfaceIndex) :
    s.drainingSet.getLsbD i.val = ((s.surface i).state == .draining) := by
  unfold State.drainingSet
  rw [foldl_bits fun j => (s.surface j).state = .draining]
  simp
  rfl

/-- Settles O56. -/
theorem engineResetEmptiesEngine : Obligations.EngineResetEmptiesEngine := by
  intro s hs
  refine ⟨Vector.ofFn fun i => (s.surface i).engineReset, s.freedSet ||| s.drainingSet, ?_, fun i => ?_, fun i => ?_⟩
  · exact congrArg _ (unlessReset_high hs _)
  · simp [Surface.engineReset]
  · rw [BitVec.getLsbD_or, drainingSet_bit]

end Sys2Proof.Machine
end

section
/-! The statements on the registers: single writes (O52), plain writes (O53), and the reset state (O47). -/

namespace Sys2Proof.Machine

open Sys2Proof.Safety

/-! ### The reset state -/

theorem reset_mover (m : MoverIndex) : State.reset.mover m = Mover.idle := by
  simp [State.reset, State.mover]

theorem reset_line (n : LineIndex) : State.reset.line n = PacingLine.reset := by
  simp [State.reset, State.line]

theorem reset_surface (i : SurfaceIndex) : State.reset.surface i = Surface.reset := by
  simp [State.reset, State.surface]

/-- Movers, lines, port and list reader at rest agree with one another. -/
theorem reset_engineSound : EngineSound State.reset := by
  have hwaiting (r : Requester) : State.reset.waiting r = none := by
    cases r
    · rw [State.waiting, reset_mover]
      rfl
    · rfl
  refine ⟨fun m => ?_, fun n => ?_, fun m n => ?_, fun m => ?_, ⟨.refl _, fun _ r _ => hwaiting r, fun r _ b hb => ?_,
    fun m b hb => ?_, nofun⟩, by decide, fun _ n => ?_, fun a ha => ?_⟩
  · rw [reset_mover]
    decide
  · rw [reset_line]
    decide
  · rw [reset_mover, reset_line]
    exact ⟨nofun, nofun⟩
  · rw [reset_mover]
    exact ⟨nofun, nofun⟩
  · rw [hwaiting] at hb
    cases hb
  · rw [reset_mover] at hb
    cases hb
  · rw [reset_line]
    rfl
  · rw [reset_mover] at ha
    cases ha

/-- Settles O47: nothing is held, and every setting is at its reset value. -/
theorem resetMeetsInvariants : Obligations.ResetMeetsInvariants := by
  refine ⟨?legal, ?life, ?capacity, ?sequence, ?settings, reset_engineSound, ?apart, ?dispatcher, ?posters, ?reader, ?counts⟩
  case legal =>
    intro i h
    rw [reset_surface] at h
    exact absurd rfl h
  case life =>
    refine lifeCycle_of_empty rfl reset_mover fun i => ?_
    rw [reset_surface]
    decide
  case capacity => exact ⟨Nat.zero_le _, Nat.zero_le _⟩
  case sequence => rfl
  case settings => simp [SettingsInRange, State.reset]
  case apart =>
    intro a ha
    rw [reset_mover] at ha
    cases ha
  case dispatcher => exact ⟨rfl, ⟨nofun, nofun⟩, ⟨nofun, nofun⟩⟩
  case posters =>
    refine ⟨fun m hm => ?_, nofun⟩
    rw [reset_mover] at hm
    cases hm
  case reader => nofun
  case counts =>
    refine ⟨fun e he => absurd he List.not_mem_nil, fun m t ht => ?_⟩
    rw [reset_mover] at ht
    cases ht

/-! ### Single registers -/

/-- Settles O52. -/
theorem singleRegisterWrites : Obligations.SingleRegisterWrites := by
  intro s hs
  have next {t u : State} (h : t = u) :
      (Host.Outcome.next (s.unlessReset t) : Host.Outcome State Fault Refusal) = .next u := by
    rw [unlessReset_high hs, h]
  refine ⟨fun code operand h => ?_, fun access offset enables h => ?_, fun value => ?_,
    fun value => ⟨s.freedSet &&& ~~~(value.extractLsb' 0 24), next rfl, fun i => ?_⟩,
    fun value => ⟨clamp 1 65536 value.toNat, next rfl, ?_, fun h => ?_, fun h h' => ?_⟩⟩
  · exact next (control_unknown h s operand)
  · exact next (if_neg h)
  · refine next ?_
    unfold State.writeStatus flag
    cases value.getLsbD 31 <;> simp
  · have hi : i.val < 24 := i.isLt
    simp [hi]
  · rintro rfl
    rfl
  · simp only [clamp]
    omega
  · simp only [clamp]
    omega

/-! ### Plain registers -/

theorem exec_registerWrite {s : State} (hs : s.inReset = false) {offset : Offset} (h : hasOwnRow offset = false) (v : Word) :
    exec (.registerWrite offset v) s = .next (s.writePlain offset v) := by
  refine congrArg _ ((unlessReset_high hs _).trans ?_)
  exact writeWord_plain h s v

theorem toNat_offset {n : Nat} (h : n < 64) : (BitVec.ofNat 6 n).toNat = n := by
  rw [BitVec.toNat_ofNat]
  exact Nat.mod_eq_of_lt h

theorem field_eq (w : Word) (low width : Nat) : field w low width = w.toNat / 2 ^ low % 2 ^ width := by
  simp [field, BitVec.extractLsb'_toNat, Nat.shiftRight_eq_div_pow]

theorem setIfInBounds_fin (words : Vector Word 7) (k : Fin 7) (v : Word) :
    words.setIfInBounds k.val v = words.set k v := by
  ext i hi
  simp [Vector.getElem_setIfInBounds, Vector.getElem_set]

section Plain

variable (s : State) (v : Word) {o : Offset}

theorem writePlain_commandStaging {k : Fin 7} (h : o.toNat = 0x08 + k.val) :
    s.writePlain o v = { s with commandStaging := s.commandStaging.set k v } := by
  unfold State.writePlain
  dsimp only
  rw [h, if_pos (by omega), Nat.add_sub_cancel_left, setIfInBounds_fin]

theorem writePlain_surfaceStaging {k : Fin 7} (h : o.toNat = 0x18 + k.val) :
    s.writePlain o v = { s with surfaceStaging := s.surfaceStaging.set k v } := by
  unfold State.writePlain
  dsimp only
  rw [h, if_neg (by omega), if_pos (by omega), Nat.add_sub_cancel_left, setIfInBounds_fin]

theorem writePlain_config {n : LineIndex} (h : o.toNat = 0x32 + n.val) :
    s.writePlain o v =
      s.setLine n { s.line n with mode := if flag v 16 then .demand else .step, timeout := v.extractLsb' 0 16 } := by
  have hn : Fin.ofNat 4 n.val = n := Fin.ext (Nat.mod_eq_of_lt n.isLt)
  unfold State.writePlain
  dsimp only
  rw [h, if_neg (by omega), if_neg (by omega), if_neg (by omega), if_neg (by omega), if_neg (by omega), if_pos (by omega),
    Nat.add_sub_cancel_left, hn]

theorem writePlain_ignored (h1 : ¬ (0x08 ≤ o.toNat ∧ o.toNat ≤ 0x0E)) (h2 : ¬ (0x18 ≤ o.toNat ∧ o.toNat ≤ 0x1F))
    (h3 : o.toNat ≠ 0x12) (h4 : o.toNat ≠ 0x06) (h5 : ¬ (0x32 ≤ o.toNat ∧ o.toNat ≤ 0x35)) : s.writePlain o v = s := by
  unfold State.writePlain
  dsimp only
  rw [if_neg h1, if_neg (by omega), if_neg (by omega), if_neg h3, if_neg h4, if_neg h5]

end Plain

/-- A threshold as written (R54, R128). -/
theorem clamp_eq_kept (most v : Nat) (h : 1 ≤ most) :
    clamp 1 most v = if v = 0 then 1 else if most < v then most else v := by
  unfold clamp
  split_ifs <;> omega

/-- Settles O53, register by register. -/
theorem plainRegisterWrites : Obligations.PlainRegisterWrites := by
  intro s value hs kept
  refine ⟨fun k => ⟨?command, ?surface⟩, ?select, ?list, ?thresholds, fun n => ?config,
    fun offset hrow h6 h12 h8 h18 h32 => ?ignored⟩
  case command =>
    have ho : (BitVec.ofNat 6 (0x08 + k.val)).toNat = 0x08 + k.val := toNat_offset (by omega)
    rw [exec_registerWrite hs (by rw [hasOwnRow, ho]; revert k; decide), writePlain_commandStaging s value ho]
  case surface =>
    have ho : (BitVec.ofNat 6 (0x18 + k.val)).toNat = 0x18 + k.val := toNat_offset (by omega)
    rw [exec_registerWrite hs (by rw [hasOwnRow, ho]; revert k; decide), writePlain_surfaceStaging s value ho]
  case select =>
    rw [exec_registerWrite hs rfl, BitVec.setWidth_eq_extractLsb' (by decide)]
    rfl
  case list => exact exec_registerWrite hs rfl value
  case thresholds =>
    have hlow : clamp 1 32 (field value 0 8) = kept 32 (value.toNat % 256) := by
      rw [field_eq, clamp_eq_kept 32 _ (by decide), Nat.pow_zero, Nat.div_one]
      rfl
    have hhigh : clamp 1 16 (field value 8 8) = kept 16 (value.toNat / 256 % 256) := by
      rw [field_eq, clamp_eq_kept 16 _ (by decide)]
      rfl
    rw [exec_registerWrite hs rfl, ← hlow, ← hhigh]
    rfl
  case config =>
    have ho : (BitVec.ofNat 6 (0x32 + n.val)).toNat = 0x32 + n.val := toNat_offset (by omega)
    rw [exec_registerWrite hs (by rw [hasOwnRow, ho]; revert n; decide), writePlain_config s value ho,
      BitVec.setWidth_eq_extractLsb' (by decide)]
    rfl
  case ignored =>
    rw [exec_registerWrite hs hrow, writePlain_ignored s value h8 h18 h12 h6 h32]

end Sys2Proof.Machine
end

section
/-! The statements on addresses: the elements of a surface (O11), and effective origins and footprints (O17). -/

namespace Sys2Proof.Machine

open Sys2Proof.Safety

/-! ### The layout of a memory surface -/

/-- What a legal memory surface has whatever its shape: alignment, rows and slices that do not overlap, and its last byte
in the address space (R3, R4, R10). -/
structure MemoryLayout (f : Surface) : Prop where
  memory : f.isPort = false
  size_pos : 0 < f.elementSize.toNat
  base_aligned : f.elementSize.toNat ∣ f.base.toNat
  row_aligned : f.elementSize.toNat ∣ f.rowPitch.toNat
  slice_aligned : f.elementSize.toNat ∣ f.slicePitch.toNat
  row_holds : 1 < f.yExtent.toNat ∨ 1 < f.zExtent.toNat → f.xExtent.toNat * f.elementSize.toNat ≤ f.rowPitch.toNat
  slice_holds : 1 < f.zExtent.toNat → f.yExtent.toNat * f.rowPitch.toNat ≤ f.slicePitch.toNat
  last_le : lastByteOf f.elementSize.toNat f.base.toNat f.xExtent.toNat f.yExtent.toNat f.zExtent.toNat
    f.rowPitch.toNat f.slicePitch.toNat ≤ 0xFFFFFFFF

theorem isPort_eq_true {f : Surface} : f.isPort = true ↔ f.shape = some .port := by
  simp [Surface.isPort]

theorem isPort_eq_false {f : Surface} : f.isPort = false ↔ f.shape ≠ some .port := by
  simp [Surface.isPort]

/-- The shapes with extents. -/
theorem memory_shape {f : Surface} (hsome : f.shape ≠ none) (hport : f.shape ≠ some .port) :
    f.shape = some .line ∨ f.shape = some .plane ∨ f.shape = some .volume := by
  cases hs : f.shape with
  | none => exact absurd hs hsome
  | some sh => cases sh <;> simp_all

theorem legal_layout {f : Surface} (h : DescriptorLegal f) (hs : f.shape ≠ some .port) : MemoryLayout f := by
  obtain ⟨hes, hbase, -, hsome, -, hmemory, hline, hplane, hrows, hvolume⟩ := h
  obtain ⟨-, -, -, -, hlast⟩ := hmemory hs
  have hdvd := Nat.dvd_of_mod_eq_zero hbase
  have hpos : 0 < f.elementSize.toNat := by omega
  rcases memory_shape hsome hs with hshape | hshape | hshape
  · obtain ⟨hy, hz, hrow, hslice⟩ := hline hshape
    refine ⟨isPort_eq_false.mpr hs, hpos, hdvd, ?_, ?_, ?_, ?_, hlast⟩ <;> simp [hy, hz, hrow, hslice]
  · obtain ⟨hz, hslice⟩ := hplane hshape
    obtain ⟨-, -, halign, hholds⟩ := hrows (.inl hshape)
    refine ⟨isPort_eq_false.mpr hs, hpos, hdvd, Nat.dvd_of_mod_eq_zero halign, ?_, fun _ => hholds, ?_, hlast⟩ <;>
      simp [hz, hslice]
  · obtain ⟨-, -, halign, hholds⟩ := hrows (.inr hshape)
    obtain ⟨-, -, hsalign, hsholds⟩ := hvolume hshape
    exact ⟨isPort_eq_false.mpr hs, hpos, hdvd, Nat.dvd_of_mod_eq_zero halign, Nat.dvd_of_mod_eq_zero hsalign,
      fun _ => hholds, fun _ => by rwa [Nat.mul_comm], hlast⟩

/-! ### Addresses -/

section Addresses

variable {f : Surface} (L : MemoryLayout f)

include L

theorem MemoryLayout.address_eq (p : Triple) :
    f.address p =
      f.base.toNat + p.z * f.slicePitch.toNat + p.y * f.rowPitch.toNat + p.x * f.elementSize.toNat := by
  simp [Surface.address, L.memory]

theorem MemoryLayout.address_aligned (p : Triple) : f.address p % f.elementSize.toNat = 0 := by
  rw [L.address_eq]
  refine Nat.mod_eq_zero_of_dvd (Nat.dvd_add (Nat.dvd_add (Nat.dvd_add L.base_aligned ?_) ?_) (Nat.dvd_mul_left _ _))
  · exact Nat.dvd_mul_left_of_dvd L.slice_aligned _
  · exact Nat.dvd_mul_left_of_dvd L.row_aligned _

theorem MemoryLayout.base_le_address (p : Triple) : f.base.toNat ≤ f.address p := by
  rw [L.address_eq]
  omega

/-- Addresses grow along every axis. -/
theorem MemoryLayout.address_mono {p q : Triple} (hx : p.x ≤ q.x) (hy : p.y ≤ q.y) (hz : p.z ≤ q.z) :
    f.address p ≤ f.address q := by
  have h1 := Nat.mul_le_mul_right f.elementSize.toNat hx
  have h2 := Nat.mul_le_mul_right f.rowPitch.toNat hy
  have h3 := Nat.mul_le_mul_right f.slicePitch.toNat hz
  rw [L.address_eq, L.address_eq]
  omega

/-- The last byte of the element at the ends of the extents is the last of the surface (R4). -/
theorem MemoryLayout.lastElement :
    f.address { x := f.xExtent.toNat - 1, y := f.yExtent.toNat - 1, z := f.zExtent.toNat - 1 } + f.elementSize.toNat - 1 =
      lastByteOf f.elementSize.toNat f.base.toNat f.xExtent.toNat f.yExtent.toNat f.zExtent.toNat f.rowPitch.toNat
        f.slicePitch.toNat := by
  rw [L.address_eq]

/-- Every element inside the extents ends inside the surface. -/
theorem MemoryLayout.address_within {p : Triple} (hx : p.x < f.xExtent.toNat) (hy : p.y < f.yExtent.toNat)
    (hz : p.z < f.zExtent.toNat) :
    f.address p + f.elementSize.toNat - 1 ≤
      lastByteOf f.elementSize.toNat f.base.toNat f.xExtent.toNat f.yExtent.toNat f.zExtent.toNat f.rowPitch.toNat
        f.slicePitch.toNat := by
  rw [← L.lastElement]
  have h := L.address_mono (p := p)
    (q := { x := f.xExtent.toNat - 1, y := f.yExtent.toNat - 1, z := f.zExtent.toNat - 1 })
    (Nat.le_sub_one_of_lt hx) (Nat.le_sub_one_of_lt hy) (Nat.le_sub_one_of_lt hz)
  omega

/-- An element of an earlier slice, of an earlier row of its slice, or earlier in its row, ends before a later one. -/
theorem MemoryLayout.address_apart {p q : Triple} (hp : p.x < f.xExtent.toNat ∧ p.y < f.yExtent.toNat)
    (hq : q.y < f.yExtent.toNat ∧ q.z < f.zExtent.toNat)
    (h : p.z < q.z ∨ p.z = q.z ∧ (p.y < q.y ∨ p.y = q.y ∧ p.x < q.x)) :
    f.address p + f.elementSize.toNat ≤ f.address q := by
  have hx : (p.x + 1) * f.elementSize.toNat ≤ f.xExtent.toNat * f.elementSize.toNat := Nat.mul_le_mul_right _ hp.1
  rw [L.address_eq, L.address_eq]
  rcases h with hz | ⟨hz, hy | ⟨hy, hlt⟩⟩
  · have hrow := L.row_holds (.inr (by omega))
    have hslice := L.slice_holds (by omega)
    have hy : (p.y + 1) * f.rowPitch.toNat ≤ f.yExtent.toNat * f.rowPitch.toNat := Nat.mul_le_mul_right _ hp.2
    have hz : (p.z + 1) * f.slicePitch.toNat ≤ q.z * f.slicePitch.toNat := Nat.mul_le_mul_right _ hz
    rw [Nat.add_one_mul] at hx hy hz
    omega
  · have hrow := L.row_holds (.inl (by omega))
    have hy : (p.y + 1) * f.rowPitch.toNat ≤ q.y * f.rowPitch.toNat := Nat.mul_le_mul_right _ hy
    rw [Nat.add_one_mul] at hx hy
    rw [hz]
    omega
  · have hlt : (p.x + 1) * f.elementSize.toNat ≤ q.x * f.elementSize.toNat := Nat.mul_le_mul_right _ hlt
    rw [Nat.add_one_mul] at hlt
    rw [hz, hy]
    omega

end Addresses

/-- Settles O11: rows hold their elements and slices their rows, so addresses grow by an element at least. -/
theorem elementsShareNoByte : Obligations.ElementsShareNoByte := by
  rintro f p q hlegal hs ⟨hpx, hpy, hpz⟩ ⟨hqx, hqy, hqz⟩
  have L := legal_layout hlegal hs
  have hwithin := L.address_within hpx hpy hpz
  refine ⟨L.address_aligned p, L.base_le_address p, hwithin, hwithin.trans L.last_le, fun hne => ?_⟩
  have horder : (p.z < q.z ∨ p.z = q.z ∧ (p.y < q.y ∨ p.y = q.y ∧ p.x < q.x))
      ∨ (q.z < p.z ∨ q.z = p.z ∧ (q.y < p.y ∨ q.y = p.y ∧ q.x < p.x)) := by
    have hdiff : ¬ (p.x = q.x ∧ p.y = q.y ∧ p.z = q.z) := by
      rintro ⟨hx, hy, hz⟩
      cases p
      cases q
      simp_all
    omega
  rcases horder with h | h
  · exact .inl (L.address_apart ⟨hpx, hpy⟩ ⟨hqy, hqz⟩ h)
  · exact .inr (L.address_apart ⟨hqx, hqy⟩ ⟨hpy, hpz⟩ h)

/-! ### Clipping -/

/-- The greatest of a start value and the values of a list. -/
theorem foldl_max_spec {α : Type} (g : α → Int) :
    ∀ (l : List α) (a : Int), let r := l.foldl (fun m b => max m (g b)) a
      a ≤ r ∧ (∀ b ∈ l, g b ≤ r) ∧ (r = a ∨ ∃ b ∈ l, r = g b)
  | [], a => by simp
  | b :: l, a => by
    obtain ⟨hstart, hall, hsome⟩ := foldl_max_spec g l (max a (g b))
    refine ⟨by simp only [List.foldl_cons]; omega, fun c hc => ?_, ?_⟩
    · rcases List.mem_cons.mp hc with rfl | hc
      · simp only [List.foldl_cons]
        omega
      · exact hall c hc
    · rcases hsome with h | ⟨c, hc, h⟩
      · rcases le_total a (g b) with hle | hle
        · exact .inr ⟨b, List.mem_cons_self .., by simpa [hle] using h⟩
        · exact .inl (by simpa [hle] using h)
      · exact .inr ⟨c, List.mem_cons_of_mem _ hc, h⟩

/-- No value of a list is below the least of them and a start value. -/
theorem foldl_min_le {α : Type} (g : α → Int) :
    ∀ (l : List α) (a : Int), l.foldl (fun m b => min m (g b)) a ≤ a ∧ ∀ b ∈ l, l.foldl (fun m b => min m (g b)) a ≤ g b
  | [], a => by simp
  | b :: l, a => by
    obtain ⟨hstart, hall⟩ := foldl_min_le g l (min a (g b))
    refine ⟨by simp only [List.foldl_cons]; omega, fun c hc => ?_⟩
    rcases List.mem_cons.mp hc with rfl | hc
    · simp only [List.foldl_cons]
      omega
    · exact hall c hc

/-- One axis of the named sides: origin and extent of each bounded one (R33). -/
def axisBounds (sides : List NamedSide) (origin : NamedSide → Int) (extent : NamedSide → Nat) : List Bound :=
  (sides.filter fun d => !d.surface.isPort).map fun d => { origin := origin d, extent := extent d }

theorem mem_axisBounds {sides : List NamedSide} {origin : NamedSide → Int} {extent : NamedSide → Nat} {b : Bound} :
    b ∈ axisBounds sides origin extent ↔
      ∃ d ∈ sides, d.surface.shape ≠ some .port ∧ b = { origin := origin d, extent := extent d } := by
  constructor
  · intro h
    obtain ⟨d, hd, rfl⟩ := List.mem_map.mp h
    obtain ⟨hmem, hs⟩ := List.mem_filter.mp hd
    exact ⟨d, hmem, isPort_eq_false.mp (by simpa using hs), rfl⟩
  · rintro ⟨d, hmem, hs, rfl⟩
    exact List.mem_map.mpr ⟨d, List.mem_filter.mpr ⟨hmem, by simp [isPort_eq_false.mpr hs]⟩, rfl⟩

/-- L of an axis (R33). -/
theorem axisLow_lowerEnd (sides : List NamedSide) (origin : NamedSide → Int) (extent : NamedSide → Nat) :
    LowerEnd sides origin (axisLow (axisBounds sides origin extent)) := by
  obtain ⟨hzero, hall, hsome⟩ := foldl_max_spec (fun b : Bound => -b.origin) (axisBounds sides origin extent) 0
  refine ⟨hzero, fun d hd hs => hall _ (mem_axisBounds.mpr ⟨d, hd, hs, rfl⟩), ?_⟩
  rcases hsome with h | ⟨b, hb, h⟩
  · exact .inl h
  · obtain ⟨d, hd, hs, rfl⟩ := mem_axisBounds.mp hb
    exact .inr ⟨d, hd, hs, h⟩

/-- The valid offsets of an axis begin inside a bounded side and end inside it (R33, R34). -/
theorem axis_within {sides : List NamedSide} {d : NamedSide} (origin : NamedSide → Int) (extent : NamedSide → Nat) (n : Nat)
    (hd : d ∈ sides) (hs : d.surface.shape ≠ some .port) :
    ((origin d + axisLow (axisBounds sides origin extent)).toNat : Int) = origin d + axisLow (axisBounds sides origin extent)
      ∧ (axisCount n (axisBounds sides origin extent) ≠ 0 →
          (origin d + axisLow (axisBounds sides origin extent)).toNat + axisCount n (axisBounds sides origin extent)
            ≤ extent d) := by
  obtain ⟨-, hlow, -⟩ := axisLow_lowerEnd sides origin extent
  have hl := hlow d hd hs
  have hu : axisHigh n (axisBounds sides origin extent) ≤ extent d - origin d :=
    (foldl_min_le (fun b : Bound => (b.extent : Int) - b.origin) (axisBounds sides origin extent) n).2 _
      (mem_axisBounds.mpr ⟨d, hd, hs, rfl⟩)
  unfold axisCount
  omega

/-- The effective origin of a bounded side (R34). -/
theorem effectiveOrigin_memory {d : NamedSide} (hs : d.surface.shape ≠ some .port) (sides : List NamedSide) :
    effectiveOrigin sides d =
      { x := (d.origin.x + axisLow (boundsX sides)).toNat
        y := (d.origin.y + axisLow (boundsY sides)).toNat
        z := (d.origin.z + axisLow (boundsZ sides)).toNat } :=
  if_neg (by simp [isPort_eq_false.mpr hs])

/-- An effective rectangle that is not empty lies inside the extents of each bounded side (R33, R34). -/
theorem effective_within {sides : List NamedSide} {d : NamedSide} {size : Triple} (hd : d ∈ sides)
    (hs : d.surface.shape ≠ some .port) (hx : (effectiveSize size sides).x ≠ 0) (hy : (effectiveSize size sides).y ≠ 0)
    (hz : (effectiveSize size sides).z ≠ 0) :
    (effectiveOrigin sides d).x + (effectiveSize size sides).x ≤ d.surface.xExtent.toNat
      ∧ (effectiveOrigin sides d).y + (effectiveSize size sides).y ≤ d.surface.yExtent.toNat
      ∧ (effectiveOrigin sides d).z + (effectiveSize size sides).z ≤ d.surface.zExtent.toNat := by
  rw [effectiveOrigin_memory hs]
  exact ⟨(axis_within (fun d => d.origin.x) (fun d => d.surface.xExtent.toNat) size.x hd hs).2 hx,
    (axis_within (fun d => d.origin.y) (fun d => d.surface.yExtent.toNat) size.y hd hs).2 hy,
    (axis_within (fun d => d.origin.z) (fun d => d.surface.zExtent.toNat) size.z hd hs).2 hz⟩

/-! ### Footprints -/

/-- The last position of a rectangle. -/
def Triple.lastOf (origin size : Triple) : Triple :=
  { x := origin.x + size.x - 1, y := origin.y + size.y - 1, z := origin.z + size.z - 1 }

theorem Triple.lastOf_lt (o : Triple) {size : Triple} (hx : size.x ≠ 0) (hy : size.y ≠ 0) (hz : size.z ≠ 0) :
    (o.lastOf size).x < o.x + size.x ∧ (o.lastOf size).y < o.y + size.y ∧ (o.lastOf size).z < o.z + size.z := by
  simp only [Triple.lastOf]
  omega

theorem Triple.add_le_lastOf (o : Triple) {size p : Triple} (hp : InBox size p) :
    (o.add p).x ≤ (o.lastOf size).x ∧ (o.add p).y ≤ (o.lastOf size).y ∧ (o.add p).z ≤ (o.lastOf size).z := by
  simp only [Triple.add, Triple.lastOf]
  omega

theorem Triple.add_eq_lastOf (o : Triple) {size p : Triple} (hx : p.x + 1 = size.x) (hy : p.y + 1 = size.y)
    (hz : p.z + 1 = size.z) : o.add p = o.lastOf size := by
  simp only [Triple.add, Triple.lastOf, Triple.mk.injEq]
  omega

/-- The footprint of a memory side that has one (R38). -/
theorem footprint_memory {f : Surface} (hport : f.isPort = false) (origin : Triple) {size : Triple} (h : size.volume ≠ 0) :
    footprint f origin size =
      some { lo := f.address origin, hi := f.address (origin.lastOf size) + f.elementSize.toNat - 1 } := by
  simp [footprint, h, hport, Triple.lastOf]

/-- Settles O17: an effective rectangle lies inside each bounded side, and addresses grow along every axis. -/
theorem footprintCoversRectangle : Obligations.FootprintCoversRectangle := by
  intro sides size d e
  refine ⟨fun hs => ?port, fun hd hs => ?origin, fun h => ?none, fun h hs => ?portPrint, fun p hd hlegal hs hp => ?memory⟩
  case port => simp [effectiveOrigin, isPort_eq_true.mpr hs]
  case origin =>
    rw [effectiveOrigin_memory hs]
    exact ⟨_, _, _, axisLow_lowerEnd sides _ fun d => d.surface.xExtent.toNat,
      axisLow_lowerEnd sides _ fun d => d.surface.yExtent.toNat, axisLow_lowerEnd sides _ fun d => d.surface.zExtent.toNat,
      (axis_within (fun d => d.origin.x) _ 0 hd hs).1, (axis_within (fun d => d.origin.y) _ 0 hd hs).1,
      (axis_within (fun d => d.origin.z) _ 0 hd hs).1⟩
  case none => exact if_pos h
  case portPrint =>
    refine (if_neg h).trans ?_
    rw [if_pos (isPort_eq_true.mpr hs)]
  case memory =>
    obtain ⟨hpx, hpy, hpz⟩ := id hp
    have L := legal_layout hlegal hs
    have hx : e.x ≠ 0 := Nat.ne_zero_of_lt hpx
    have hy : e.y ≠ 0 := Nat.ne_zero_of_lt hpy
    have hz : e.z ≠ 0 := Nat.ne_zero_of_lt hpz
    have hvolume : e.volume ≠ 0 := Nat.mul_ne_zero (Nat.mul_ne_zero hx hy) hz
    obtain ⟨hwx, hwy, hwz⟩ := effective_within hd hs hx hy hz
    obtain ⟨hlx, hly, hlz⟩ := (effectiveOrigin sides d).lastOf_lt hx hy hz
    obtain ⟨hax, hay, haz⟩ := (effectiveOrigin sides d).add_le_lastOf hp
    refine ⟨_, footprint_memory L.memory _ hvolume, rfl, ?_, ?_, fun hx hy hz => ?_, L.base_le_address _, ?_⟩
    · exact L.address_mono (Nat.le_add_right _ _) (Nat.le_add_right _ _) (Nat.le_add_right _ _)
    · exact Nat.sub_le_sub_right (Nat.add_le_add_right (L.address_mono hax hay haz) _) 1
    · rw [Triple.add_eq_lastOf _ hx hy hz]
    · exact L.address_within (hlx.trans_le hwx) (hly.trans_le hwy) (hlz.trans_le hwz)

end Sys2Proof.Machine
end

section
/-! Acceptance (spec/02): the checks that POST and the list reader make are those of Table 2-5 in plain numbers, and the
entry of an accepted command is what Table 2-6 gives. -/

namespace Sys2Proof.Machine

open Sys2Proof.Safety

/-! ### Named sides -/

theorem entryAt_named (s : State) (name : SurfaceName) (o : Origin) :
    entryAt s name.index = (s.named name o).map NamedSide.surface := by
  unfold entryAt State.named surfaceIndex
  split <;> rfl

theorem fillSide_eq (s : State) (c : Command) : fillSide s c = s.named c.dst c.dstOrigin := by
  unfold fillSide State.named surfaceIndex
  split <;> rfl

theorem sidesOf_eq (s : State) (c : Command) :
    sidesOf s c = (s.named c.src c.srcOrigin).bind fun a => (s.named c.dst c.dstOrigin).map fun b => (a, b) := by
  unfold sidesOf State.named surfaceIndex
  by_cases ha : c.src.index < 24 <;> by_cases hb : c.dst.index < 24 <;> simp [ha, hb]

section Names

variable (s : State) (name : SurfaceName) (o : Origin)

theorem noSurface_iff : ((s.named name o).all fun d => d.surface.state == .free) = true ↔ NoSurface s name := by
  rw [NoSurface, entryAt_named s name o]
  cases s.named name o <;> simp

theorem stale_iff : ((s.named name o).any fun d => d.surface.generation != name.generation) = true ↔ Stale s name := by
  rw [Stale, entryAt_named s name o]
  cases s.named name o <;> simp

theorem draining_iff : ((s.named name o).any fun d => d.surface.state == .draining) = true ↔ Draining s name := by
  rw [Draining, entryAt_named s name o]
  cases s.named name o <;> simp

/-- A name that NO_SURFACE passes has its entry. -/
theorem named_of_surface (h : ¬ NoSurface s name) : ∃ d, s.named name o = some d := by
  rw [NoSurface, entryAt_named s name o] at h
  cases hd : s.named name o with
  | none => simp [hd] at h
  | some d => exact ⟨d, rfl⟩

end Names

/-! ### The rectangle -/

theorem sizeLegal_iff (t : Triple) : sizeLegal t = true ↔ SizeInLimits t := by
  simp only [sizeLegal, Bool.and_eq_true, decide_eq_true_eq, and_assoc]
  rfl

theorem shapeLegal_iff (fillPort : Bool) (size : Triple) (d : NamedSide) :
    shapeLegal fillPort size d = true ↔ ShapeRule fillPort d.surface d.origin size := by
  unfold shapeLegal ShapeRule
  cases d.surface.shape with
  | none => simp
  | some sh => cases sh <;> cases fillPort <;> simp [and_assoc]

theorem axisCount_le (n : Nat) (bounds : List Bound) : axisCount n bounds ≤ n := by
  have hlow := (foldl_max_spec (fun b : Bound => -b.origin) bounds 0).1
  have hhigh := (foldl_min_le (fun b : Bound => (b.extent : Int) - b.origin) bounds n).1
  unfold axisCount axisLow axisHigh
  omega

/-- A value below a start value and every value of a list is below their least. -/
theorem le_foldl_min {α : Type} (g : α → Int) {v : Int} :
    ∀ (l : List α) (a : Int), v ≤ a → (∀ b ∈ l, v ≤ g b) → v ≤ l.foldl (fun m b => min m (g b)) a
  | [], _, h, _ => h
  | b :: l, _, h, hall =>
    le_foldl_min g l _ (le_min h (hall b (List.mem_cons_self ..))) fun c hc => hall c (List.mem_cons_of_mem _ hc)

/-- On one axis nothing is clipped exactly when the offsets lie inside every bounded side (R33). -/
theorem axisCount_eq_iff (sides : List NamedSide) (origin : NamedSide → Int) (extent : NamedSide → Nat) {n : Nat}
    (hn : 1 ≤ n) :
    axisCount n (axisBounds sides origin extent) = n ↔
      ∀ d ∈ sides, d.surface.shape ≠ some .port → 0 ≤ origin d ∧ origin d + n ≤ extent d := by
  obtain ⟨hzero, hlow, hleast⟩ := axisLow_lowerEnd sides origin extent
  obtain ⟨hhigh, hall⟩ := foldl_min_le (fun b : Bound => (b.extent : Int) - b.origin) (axisBounds sides origin extent) n
  constructor
  · intro h d hd hs
    have hl := hlow d hd hs
    have hu := hall _ (mem_axisBounds.mpr ⟨d, hd, hs, rfl⟩)
    unfold axisCount axisHigh at h
    dsimp only at hu
    omega
  · intro h
    have hl : axisLow (axisBounds sides origin extent) = 0 := by
      rcases hleast with hl | ⟨d, hd, hs, hl⟩
      · exact hl
      · have := (h d hd hs).1
        omega
    have hu : (n : Int) ≤ axisHigh n (axisBounds sides origin extent) := by
      refine le_foldl_min (fun b : Bound => (b.extent : Int) - b.origin) _ _ le_rfl fun b hb => ?_
      obtain ⟨d, hd, hs, rfl⟩ := mem_axisBounds.mp hb
      have := (h d hd hs).2
      dsimp only
      omega
    unfold axisCount
    unfold axisHigh at hu ⊢
    omega

/-- A box inside another of as many elements is that box. -/
theorem volume_le_iff {a b c a' b' c' : Nat} (ha : 1 ≤ a) (hb : 1 ≤ b) (hc : 1 ≤ c) (ha' : a' ≤ a) (hb' : b' ≤ b)
    (hc' : c' ≤ c) : a * b * c ≤ a' * b' * c' ↔ a' = a ∧ b' = b ∧ c' = c := by
  constructor
  · intro h
    refine ⟨le_antisymm ha' ?_, le_antisymm hb' ?_, le_antisymm hc' ?_⟩
    · have h1 : a * (b * c) ≤ a' * (b * c) := by
        rw [← Nat.mul_assoc, ← Nat.mul_assoc]
        exact h.trans (Nat.mul_le_mul (Nat.mul_le_mul_left a' hb') hc')
      exact Nat.le_of_mul_le_mul_right h1 (Nat.mul_pos hb hc)
    · have h1 : b * (a * c) ≤ b' * (a * c) := by
        rw [Nat.mul_left_comm b, Nat.mul_left_comm b', ← Nat.mul_assoc, ← Nat.mul_assoc]
        exact h.trans (Nat.mul_le_mul (Nat.mul_le_mul_right b' ha') hc')
      exact Nat.le_of_mul_le_mul_right h1 (Nat.mul_pos ha hc)
    · have h1 : a * b * c ≤ a * b * c' := h.trans (Nat.mul_le_mul_right c' (Nat.mul_le_mul ha' hb'))
      exact Nat.le_of_mul_le_mul_left h1 (Nat.mul_pos ha hb)
  · rintro ⟨rfl, rfl, rfl⟩
    exact le_rfl

theorem effectiveSize_le (size : Triple) (sides : List NamedSide) :
    (effectiveSize size sides).x ≤ size.x ∧ (effectiveSize size sides).y ≤ size.y ∧ (effectiveSize size sides).z ≤ size.z :=
  ⟨axisCount_le _ _, axisCount_le _ _, axisCount_le _ _⟩

theorem effective_volume_le (size : Triple) (sides : List NamedSide) : (effectiveSize size sides).volume ≤ size.volume := by
  obtain ⟨hx, hy, hz⟩ := effectiveSize_le size sides
  exact Nat.mul_le_mul (Nat.mul_le_mul hx hy) hz

/-- Nothing is clipped exactly when the rectangle lies inside every bounded side (R35). -/
theorem clippedCount_eq_zero {size : Triple} (sides : List NamedSide) (h : SizeInLimits size) :
    clippedCount size sides = 0 ↔ ∀ d ∈ sides, Inside d.surface d.origin size := by
  obtain ⟨hx, -, hy, -, hz, -⟩ := h
  obtain ⟨hx', hy', hz'⟩ := effectiveSize_le size sides
  have hax := axisCount_eq_iff sides (fun d => d.origin.x) (fun d => d.surface.xExtent.toNat) hx
  have hay := axisCount_eq_iff sides (fun d => d.origin.y) (fun d => d.surface.yExtent.toNat) hy
  have haz := axisCount_eq_iff sides (fun d => d.origin.z) (fun d => d.surface.zExtent.toNat) hz
  rw [clippedCount, Nat.sub_eq_zero_iff_le]
  refine (volume_le_iff hx hy hz hx' hy' hz').trans ((and_congr hax (and_congr hay haz)).trans ?_)
  constructor
  · rintro ⟨h1, h2, h3⟩ d hd hs
    obtain ⟨h1, h1'⟩ := h1 d hd hs
    obtain ⟨h2, h2'⟩ := h2 d hd hs
    exact ⟨h1, h1', h2, h2', h3 d hd hs⟩
  · intro h
    refine ⟨fun d hd hs => ?_, fun d hd hs => ?_, fun d hd hs => ?_⟩ <;> obtain ⟨h1, h2, h3, h4, h5⟩ := h d hd hs
    · exact ⟨h1, h2⟩
    · exact ⟨h3, h4⟩
    · exact h5

/-- BAD_RECT in its three parts: size, shape, clipping (R45). -/
theorem badRect_iff (c : Command) (sides : List NamedSide) :
    badRect c sides = true ↔
      ¬ SizeInLimits c.size
      ∨ ¬ (∀ d ∈ sides, ShapeRule (c.kind == some .fill) d.surface d.origin c.size)
      ∨ c.clip = false ∧ ¬ ∀ d ∈ sides, Inside d.surface d.origin c.size := by
  by_cases h : SizeInLimits c.size
  · rw [or_iff_right (not_not.mpr h)]
    simp only [badRect, (sizeLegal_iff c.size).mpr h, Bool.or_eq_true, Bool.and_eq_true, Bool.not_eq_true', bne_iff_ne, ne_eq,
      clippedCount_eq_zero sides h, not_true_eq_false, false_or, ← Bool.not_eq_true, List.all_eq_true, shapeLegal_iff]
  · have hlegal : sizeLegal c.size = false := by
      rw [← Bool.not_eq_true, sizeLegal_iff]
      exact h
    simp [badRect, hlegal, h]

/-! ### The order of the checks -/

/-- The reason of a verdict, if it refuses. -/
def Verdict.refusal : Verdict → Option Reason
  | .accepted _ => none
  | .refused r => some r

theorem verdictOf_refusal (r : Option Reason) (e : Entry) : (verdictOf r e).refusal = r := by
  cases r <;> rfl

theorem firstRefusal_nil : firstRefusal [] = none := rfl

theorem firstRefusal_cons (k : Check) (ks : List Check) :
    firstRefusal (k :: ks) = if k.refuses = true then some k.reason else firstRefusal ks := by
  cases h : k.refuses <;> simp [firstRefusal, h]

/-- The first check of Table 2-5 that fails, and then those of the sides. -/
theorem verdict_refusal_eq (s : State) (c : Command) :
    (s.verdict c).refusal = (firstRefusal (s.commandChecks c ++ s.nameChecks c)).or (s.sideVerdict c).refusal := by
  unfold State.verdict
  split <;> rename_i h <;> rw [h] <;> rfl

theorem check_or {p : Prop} [Decidable p] {α : Type} (a : α) (x y : Option α) :
    (if p then some a else x).or y = if p then some a else x.or y := by
  split <;> rfl

/-- A check of three parts is three checks of one reason. -/
theorem ite_three {α : Type} {k : Bool} {p q u : Prop} [Decidable p] [Decidable q] [Decidable u]
    (h : k = true ↔ p ∨ q ∨ u) (r x : α) :
    (if k = true then r else x) = if p then r else if q then r else if u then r else x := by
  rw [if_congr h rfl rfl, ite_or, ite_or]

section Sides

variable {α : Type} (c : Command) (r : α) (x : α)

/-- BAD_RECT of a MOVE, part by part. -/
theorem badRect_move (hk : c.kind = some .move) (a b : NamedSide) :
    (if badRect c [a, b] = true then r else x) =
      if ¬ SizeInLimits c.size then r
      else if ¬ (ShapeRule false a.surface a.origin c.size ∧ ShapeRule false b.surface b.origin c.size) then r
      else if c.clip = false ∧ ¬ (Inside a.surface a.origin c.size ∧ Inside b.surface b.origin c.size) then r
      else x := by
  refine ite_three ((badRect_iff c _).trans ?_) r x
  simp only [hk, List.forall_mem_cons, List.not_mem_nil, false_implies, implies_true, and_true]
  rfl

/-- BAD_RECT of a FILL, part by part. -/
theorem badRect_fill (hk : c.kind = some .fill) (b : NamedSide) :
    (if badRect c [b] = true then r else x) =
      if ¬ SizeInLimits c.size then r
      else if ¬ ShapeRule true b.surface b.origin c.size then r
      else if c.clip = false ∧ ¬ Inside b.surface b.origin c.size then r
      else x := by
  refine ite_three ((badRect_iff c _).trans ?_) r x
  simp only [hk, List.forall_mem_cons, List.not_mem_nil, false_implies, implies_true, and_true]
  rfl

end Sides

theorem firstRefusal_move (c : Command) (a b : NamedSide) (hk : c.kind = some .move) :
    firstRefusal (moveChecks c a b) = moveRefusal c a b := by
  unfold moveChecks moveRefusal aliased
  simp only [firstRefusal_cons, firstRefusal_nil, badRect_move c _ _ hk, Bool.not_eq_true', Bool.and_eq_true, isPort_eq_true,
    bne_iff_ne, Option.isNone_iff_eq_none]

theorem firstRefusal_fill (c : Command) (b : NamedSide) (hk : c.kind = some .fill) :
    firstRefusal (fillChecks c b) = fillRefusal c b := by
  unfold fillChecks fillRefusal
  simp only [firstRefusal_cons, firstRefusal_nil, badRect_fill c _ _ hk, Bool.not_eq_true']

/-- Acceptance refuses by the first failing check of Table 2-5 (R42 to R45). -/
theorem verdict_refusal (s : State) (c : Command) : (s.verdict c).refusal = acceptanceRefusal s c := by
  rw [verdict_refusal_eq]
  unfold State.commandChecks State.nameChecks acceptanceRefusal
  cases hk : c.kind with
  | none =>
    simp [firstRefusal_cons, check_or]
    rfl
  | some k =>
    cases k with
    | fence =>
      simp [firstRefusal_cons, firstRefusal_nil, hk, Command.names, State.sideVerdict, Verdict.refusal]
      rfl
    | fill =>
      simp only [List.cons_append, List.nil_append, firstRefusal_cons, firstRefusal_nil, check_or, hk, Command.names,
        List.map_cons, List.map_nil, List.any_cons, List.any_nil, Bool.or_false, noSurface_iff, stale_iff, draining_iff]
      by_cases hname : NoSurface s c.dst
      · simp [if_pos hname]
        rfl
      · obtain ⟨b, hb⟩ := named_of_surface s c.dst c.dstOrigin hname
        simp [hname, State.sideVerdict, hk, hb, verdictOf_refusal, firstRefusal_fill c b hk, fillSide_eq]
        rfl
    | move =>
      simp only [List.cons_append, List.nil_append, firstRefusal_cons, firstRefusal_nil, check_or, hk, Command.names,
        List.map_cons, List.map_nil, List.any_cons, List.any_nil, Bool.or_false, Bool.or_eq_true, noSurface_iff, stale_iff,
        draining_iff]
      by_cases hname : NoSurface s c.src ∨ NoSurface s c.dst
      · simp [hname]
        rfl
      · obtain ⟨hsrc, hdst⟩ := not_or.mp hname
        obtain ⟨a, ha⟩ := named_of_surface s c.src c.srcOrigin hsrc
        obtain ⟨b, hb⟩ := named_of_surface s c.dst c.dstOrigin hdst
        simp [hname, State.sideVerdict, hk, ha, hb, verdictOf_refusal, firstRefusal_move c a b hk, sidesOf_eq]
        rfl

/-- A command that no check of Table 2-5 refuses is accepted. -/
theorem verdict_accepts {s : State} {c : Command} (h : acceptanceRefusal s c = none) : ∃ e, s.verdict c = .accepted e := by
  have hr := verdict_refusal s c
  rw [h] at hr
  cases hv : s.verdict c with
  | accepted e => exact ⟨e, rfl⟩
  | refused r => simp [hv, Verdict.refusal] at hr

/-! ### The entry -/

theorem vectorPositive_iff (a b : Origin) : vectorPositive a b = true ↔ VectorAboveZero a b := by
  unfold vectorPositive VectorAboveZero
  split_ifs <;> simp only [decide_eq_true_eq] <;> omega

theorem sidesLine_one (b : NamedSide) : sidesLine [b] = lineOf b.surface := by
  by_cases hb : b.surface.isPort = true
  · simp [sidesLine, lineOf, hb, isPort_eq_true.mp hb]
  · have hs := isPort_eq_false.mp (Bool.not_eq_true _ ▸ hb)
    simp [sidesLine, lineOf, hb, hs]

/-- At most one side of a MOVE is a PORT (R44), and its line is the transfer's (R32). -/
theorem sidesLine_two {a b : NamedSide} (h : ¬ (a.surface.shape = some .port ∧ b.surface.shape = some .port)) :
    sidesLine [a, b] = (lineOf a.surface <|> lineOf b.surface) := by
  by_cases ha : a.surface.isPort = true
  · have hs := isPort_eq_true.mp ha
    have hb : lineOf b.surface = none := if_neg fun hb => h ⟨hs, hb⟩
    simp [sidesLine, ha, hb]
    simp [lineOf, hs]
  · have hs : lineOf a.surface = none := if_neg (isPort_eq_false.mp (Bool.not_eq_true _ ▸ ha))
    rw [hs]
    exact (by simp [sidesLine, ha] : sidesLine [a, b] = sidesLine [b]).trans (by simp [sidesLine_one])

theorem effective_add_clipped (size : Triple) (sides : List NamedSide) :
    (effectiveSize size sides).volume + clippedCount size sides = size.volume :=
  Nat.add_sub_cancel' (effective_volume_le size sides)

/-- What the checks of Table 2-5 leave of the options. -/
theorem options_of_accepted {s : State} {c : Command} (h : acceptanceRefusal s c = none) :
    (c.kind = some .fence → c.clip = false ∧ c.keyed = false) ∧ (c.kind = some .fill → c.keyed = false) := by
  unfold acceptanceRefusal at h
  refine ⟨fun hk => ?_, fun hk => ?_⟩
  · simp only [hk, check_eq_none] at h
    simpa using h.2.1
  · simp only [hk, check_eq_none] at h
    simpa using h.2.1

theorem fillRefusal_of_accepted {s : State} {c : Command} {b : NamedSide} (h : acceptanceRefusal s c = none)
    (hk : c.kind = some .fill) (hb : s.named c.dst c.dstOrigin = some b) : fillRefusal c b = none := by
  unfold acceptanceRefusal at h
  simp only [hk, check_eq_none, fillSide_eq, hb] at h
  exact h.2.2.2.2.2

theorem moveRefusal_of_accepted {s : State} {c : Command} {a b : NamedSide} (h : acceptanceRefusal s c = none)
    (hk : c.kind = some .move) (ha : s.named c.src c.srcOrigin = some a) (hb : s.named c.dst c.dstOrigin = some b) :
    moveRefusal c a b = none := by
  unfold acceptanceRefusal at h
  simp only [hk, check_eq_none, sidesOf_eq, ha, hb] at h
  exact h.2.2.2.2

/-- The entry of an accepted command is the one of Table 2-6 (R46). -/
theorem entryOf_accepted {s : State} {c : Command} {e : Entry} (h : acceptanceRefusal s c = none)
    (he : s.verdict c = .accepted e) : EntryOf s c e := by
  obtain ⟨hfence, hfill⟩ := options_of_accepted h
  obtain ⟨-, hentry⟩ := verdict_accepted he
  cases hentry with
  | fence hk =>
    obtain ⟨hclip, hkeyed⟩ := hfence hk
    simp [EntryOf, fenceEntry, hk, hclip, hkeyed, Entry.effective]
  | @fill b hk hb =>
    have hchecks := fillRefusal_of_accepted h hk hb
    simp only [fillRefusal, check_eq_none] at hchecks
    obtain ⟨-, hsize, -, hinside, -⟩ := hchecks
    have hclip (hc : c.clip = false) : clippedCount c.size [b] = 0 := by
      rw [clippedCount_eq_zero _ (not_not.mp hsize)]
      simpa using not_not.mp fun hn => hinside ⟨hc, hn⟩
    refine ⟨hk.symm, rfl, rfl, rfl, rfl, (hfill hk).symm, rfl, ?_, rfl, rfl, effective_add_clipped c.size [b], hclip,
      fun hm => ?_, fun _ => ⟨b, by rw [fillSide_eq, hb]; rfl, rfl, rfl, rfl, sidesLine_one b⟩, fun hf => ?_⟩
    · exact congrArg some (named_eq_some hb).1
    · simp [hk] at hm
    · simp [hk] at hf
  | @move a b hk ha hb =>
    have hchecks := moveRefusal_of_accepted h hk ha hb
    simp only [moveRefusal, check_eq_none] at hchecks
    obtain ⟨-, -, hports, -, -, hsize, -, hinside, -⟩ := hchecks
    obtain ⟨hsrc, -, hao⟩ := named_eq_some ha
    obtain ⟨hdst, -, hbo⟩ := named_eq_some hb
    have hclip (hc : c.clip = false) : clippedCount c.size [a, b] = 0 := by
      rw [clippedCount_eq_zero _ (not_not.mp hsize)]
      simpa using not_not.mp fun hn => hinside ⟨hc, hn⟩
    have hdescending : (moveEntry c a b).descending = true ↔
        a.index = b.index ∧ footprintsMeet (moveEntry c a b).reads (moveEntry c a b).writes = true
          ∧ VectorAboveZero c.srcOrigin c.dstOrigin := by
      rw [← hao, ← hbo, ← vectorPositive_iff]
      simp only [moveEntry, Bool.and_eq_true, beq_iff_eq, and_assoc]
      rfl
    refine ⟨hk.symm, rfl, rfl, rfl, rfl, rfl, congrArg some hsrc, congrArg some hdst, rfl, rfl,
      effective_add_clipped c.size [a, b], hclip,
      fun _ => ⟨(a, b), by rw [sidesOf_eq, ha, hb]; rfl, rfl, rfl, rfl, hdescending, sidesLine_two hports⟩,
      fun hf => ?_, fun hf => ?_⟩
    · simp [hk] at hf
    · simp [hk] at hf

/-- An accepted command takes a reference of each surface that it names (R16). -/
theorem mem_surfaces_iff {s : State} {c : Command} {e : Entry} (he : EntryFrom s c e) (i : SurfaceIndex) :
    i ∈ e.surfaces ↔ Names c i := by
  cases he with
  | fence hk => simp [Entry.surfaces, fenceEntry, hk]
  | @fill b hk hb =>
    have hdst := (named_eq_some hb).1
    have hmem : i ∈ (fillEntry c b).surfaces ↔ i = b.index := List.mem_singleton
    rw [hmem, Names, hk, ← hdst, Fin.ext_iff, eq_comm]
    simp
  | @move a b hk ha hb =>
    have hsrc := (named_eq_some ha).1
    have hdst := (named_eq_some hb).1
    have hmem : i ∈ (moveEntry c a b).surfaces ↔ i = a.index ∨ i = b.index := by
      simp only [Entry.surfaces, moveEntry, NamedSide.accepted]
      split <;> simp_all
    rw [hmem, Names, hk, ← hsrc, ← hdst, Fin.ext_iff, Fin.ext_iff, eq_comm, @eq_comm _ i.val b.index.val]
    simp

/-- References that are taken change the surface table alone. -/
theorem addRefs_only (s : State) (e : Entry) : ∃ table, s.addRefs e = { s with surfaces := table } := by
  unfold State.addRefs
  induction e.surfaces generalizing s with
  | nil => exact ⟨_, rfl⟩
  | cons a l ih =>
    obtain ⟨table, h⟩ := ih (s.addRef a)
    exact ⟨table, h⟩

/-- The surface table of an acceptance. -/
theorem enqueue_table {s : State} {c : Command} {e : Entry} (he : EntryFrom s c e) :
    ∃ table : Vector Surface 24,
      s.enqueue e = { s with queue := s.queue ++ [e], surfaces := table } ∧ Referenced s { s with surfaces := table } c := by
  obtain ⟨table, h⟩ := addRefs_only s e
  refine ⟨table, by rw [State.enqueue, h], fun i => ?_⟩
  have hs := addRefs_surface s e i
  rw [h] at hs
  refine hs.trans ?_
  rw [if_congr (mem_surfaces_iff he i) rfl rfl]
  rfl

end Sys2Proof.Machine
end

section
/-! The head of an empty queue (spec/03): the dispatcher's decision is that of Table 3-2 and R68 in plain conditions, and what
its examination leaves. With it, POST accepted (O14). -/

namespace Sys2Proof.Machine

open Sys2Proof.Safety

/-! ### The decision on a head -/

theorem moversIdle_iff (s : State) : s.moversIdle = true ↔ MoversIdle s := by
  simp [State.moversIdle]

theorem hazard_iff (s : State) (e : Entry) :
    s.inFlight.any e.conflicts = true ↔ ∃ t ∈ s.inFlight, e.conflicts t = true :=
  List.any_eq_true

theorem sharesLine_iff (s : State) (e : Entry) :
    s.inFlight.any e.sharesLine = true ↔ ∃ t ∈ s.inFlight, e.line ≠ none ∧ e.line = t.line := by
  simp [Entry.sharesLine, Option.isSome_iff_ne_none]

theorem isEmpty_iff {e : Entry} (h : e.kind ≠ .fence) : e.isEmpty = true ↔ e.size.x * e.size.y * e.size.z = 0 := by
  simp only [Entry.isEmpty, Entry.effective, Bool.and_eq_true, bne_iff_ne, beq_iff_eq]
  exact and_iff_right h

theorem idleMover_eq {s : State} {m : MoverIndex} (h : LowestIdle s m) : s.idleMover = some m := by
  obtain ⟨hm, hother⟩ := h
  unfold State.idleMover
  fin_cases m
  · exact if_pos hm
  · rw [if_neg (hother rfl)]
    exact if_pos hm

/-- What the tables say of a head, beside the dispatcher's decision on it: it is reported, held, or issued to the
lowest-numbered IDLE mover (Table 3-2, R63, R68). -/
inductive HeadCase (s : State) (e : Entry) : Decision → Prop where
  | report {o : Outcome} : reportOf s e = some o → HeadCase s e (.report o)
  | hold {r : WaitReason} : reportOf s e = none → holdOf s e = some r → HeadCase s e (.hold r)
  | issue {m : MoverIndex} : reportOf s e = none → holdOf s e = none → LowestIdle s m → HeadCase s e (.issue m)

theorem idleMover_none_iff (s : State) : s.idleMover = none ↔ (s.mover 0).state ≠ .idle ∧ (s.mover 1).state ≠ .idle := by
  unfold State.idleMover
  split_ifs with h0 h1 <;> simp [h0] <;> assumption

theorem lowestIdle_of_idleMover {s : State} {m : MoverIndex} (h : s.idleMover = some m) : LowestIdle s m := by
  unfold State.idleMover at h
  split_ifs at h with h0 h1 <;> obtain rfl := Option.some.inj h
  · exact ⟨h0, nofun⟩
  · exact ⟨h1, fun _ => h0⟩

/-- The dispatcher decides as the tables say. -/
theorem decision_case (s : State) (e : Entry) : HeadCase s e (s.decision e) := by
  unfold State.decision
  split
  case isTrue hc => exact .report (by simp [reportOf, hc])
  case isFalse hc =>
    split
    case isTrue hk =>
      split
      case isTrue hi => exact .report (by simp [reportOf, hc, hk, (moversIdle_iff s).mp hi])
      case isFalse hi =>
        have hr : reportOf s e = none := by simp [reportOf, hc, hk, mt (moversIdle_iff s).mpr hi]
        exact .hold hr (by simp [holdOf, hr, hk])
    case isFalse hk =>
      split
      case isTrue hempty => exact .report (by simp [reportOf, hc, hk, (isEmpty_iff hk).mp hempty])
      case isFalse hempty =>
        have hr : reportOf s e = none := by
          unfold reportOf
          rw [if_neg hc, if_neg hk, if_neg (mt (isEmpty_iff hk).mpr hempty)]
        have hold : holdOf s e =
            if s.inFlight.any e.conflicts = true then some .hazard
            else if s.inFlight.any e.sharesLine = true then some .line
            else if s.idleMover = none then some .mover
            else none := by
          unfold holdOf
          rw [if_neg (by simp [hr]), if_neg hk, if_congr (hazard_iff s e).symm rfl rfl,
            if_congr (sharesLine_iff s e).symm rfl rfl, if_congr (idleMover_none_iff s).symm rfl rfl]
        split
        case isTrue hh => exact .hold hr (hold.trans (if_pos hh))
        case isFalse hh =>
          rw [if_neg hh] at hold
          split
          case isTrue hl => exact .hold hr (hold.trans (if_pos hl))
          case isFalse hl =>
            rw [if_neg hl] at hold
            split
            case h_1 hn => exact .hold hr (hold.trans (if_pos hn))
            case h_2 m hm => exact .issue hr (hold.trans (if_neg (by simp [hm]))) (lowestIdle_of_idleMover hm)

/-- The decision depends on the movers alone. -/
theorem decision_congr {s t : State} (h : t.movers = s.movers) (e : Entry) : t.decision e = s.decision e := by
  unfold State.decision State.moversIdle State.inFlight State.idleMover
  simp only [mover_congr h]

/-! ### The configuration of the lines -/

/-- Mode and timeout of every line are as before: only a write to PACING_CONFIG changes them (R100). -/
def SettingsKept (s t : State) : Prop :=
  ∀ n : LineIndex, (t.line n).mode = (s.line n).mode ∧ (t.line n).timeout = (s.line n).timeout

theorem SettingsKept.refl (s : State) : SettingsKept s s := fun _ => ⟨rfl, rfl⟩

theorem SettingsKept.trans {s t u : State} (h : SettingsKept s t) (k : SettingsKept t u) : SettingsKept s u :=
  fun n => ⟨(k n).1.trans (h n).1, (k n).2.trans (h n).2⟩

theorem SettingsKept.of_lines {s t : State} (h : t.lines = s.lines) : SettingsKept s t :=
  fun n => by rw [line_congr h n]; exact ⟨rfl, rfl⟩

section Settings

variable (s : State) (m : MoverIndex) (n : LineIndex) (e : Entry)

theorem setLine_settings {v : PacingLine} (hm : v.mode = (s.line n).mode) (ht : v.timeout = (s.line n).timeout) :
    SettingsKept s (s.setLine n v) := by
  intro k
  by_cases h : k = n
  · rw [h, setLine_line]
    exact ⟨hm, ht⟩
  · rw [setLine_line_ne s h]
    exact ⟨rfl, rfl⟩

theorem admitBurst_settings : SettingsKept s (s.admitBurst n m) :=
  (setLine_settings s n (v := (s.line n).admitting) rfl rfl).trans (.of_lines (startUnit_lines _ m))

theorem waitIn_settings (st : LineState) : SettingsKept s (s.waitIn n m st) :=
  (setLine_settings s n (v := (s.line n).inState st) rfl rfl).trans (.of_lines rfl)

theorem bind_settings : SettingsKept s (s.bind n m) := by
  unfold State.bind
  dsimp only
  split
  · exact (setLine_settings s n (v := (s.line n).bindTo m) rfl rfl).trans (admitBurst_settings _ m n)
  · exact (setLine_settings s n (v := ((s.line n).bindTo m).loadTimer) rfl rfl).trans (waitIn_settings _ m n _)

theorem removeHead_settings : SettingsKept s s.removeHead := by
  obtain ⟨_, h⟩ := removeHead_only s
  exact .of_lines (by rw [h])

theorem issue_settings : SettingsKept s (s.issue e m) := by
  have htaken : SettingsKept s (s.removeHead.setMover m (Mover.take e)) :=
    (removeHead_settings s).trans (.of_lines rfl)
  unfold State.issue
  dsimp only
  split
  · exact htaken.trans (.of_lines (startUnit_lines _ m))
  · exact htaken.trans (bind_settings _ m _)

end Settings

/-! ### A report and an issue -/

section Head

variable (s : State) (m : MoverIndex) (e : Entry)

theorem raiseIf_other (b : Bool) {c k : Cause} (h : (k == c) = false) : (s.raiseIf b c).causeSet k = s.causeSet k := by
  rw [raiseIf_causeSet, h, Bool.false_and, Bool.or_false]

theorem appendRecord_freed (r : Completion) : (s.appendRecord r).causeSet .freed = s.causeSet .freed :=
  (raiseIf_other _ _ rfl).trans (raiseIf_other _ _ rfl)

theorem removeHead_freed : s.removeHead.causeSet .freed = s.causeSet .freed := by
  unfold State.removeHead
  exact raiseIf_other { s with queue := s.queue.tail } _ rfl

/-- What the dispatcher's report is, before its references are returned: the record posted, the head removed, and the
FREED cause as it was. -/
theorem report_eq (o : Outcome) :
    ∃ ca, s.report e o =
        State.returnRefs { s with
          completions := s.completions ++ [{ dispatcherRecord e o with sequence := s.sequence }]
          sequence := s.sequence + 1
          queue := s.queue.tail
          reader := { s.reader with due := s.reader.due || s.reader.state == .waitSpace }
          causes := ca } e
      ∧ State.causeSet { s with causes := ca } .freed = s.causeSet .freed := by
  obtain ⟨c, hr⟩ := appendRecord_only s (dispatcherRecord e o)
  obtain ⟨ca, hh⟩ := removeHead_only (s.appendRecord (dispatcherRecord e o))
  have hfreed := (removeHead_freed (s.appendRecord (dispatcherRecord e o))).trans (appendRecord_freed s _)
  refine ⟨ca, ?_, ?_⟩
  · unfold State.report
    rw [hh, hr]
  · rw [hh] at hfreed
    exact hfreed

theorem returnRefs_congr {s t u : State} {l : List SurfaceIndex} (hs : t.surfaces = s.surfaces)
    (hf : t.freedSet = s.freedSet) (hc : t.causeSet .freed = s.causeSet .freed) (h : ReturnsRefs t u l) : ReturnsRefs s u l := by
  have hsurface : t.surface = s.surface := funext (surface_congr hs)
  simpa only [ReturnsRefs, FreedBy, hsurface, hf, hc] using h

/-- The references of a reported head. -/
theorem report_returnsRefs (o : Outcome) : ReturnsRefs s (s.report e o) e.surfaces := by
  obtain ⟨ca, h, hfreed⟩ := report_eq s e o
  rw [h]
  refine returnRefs_congr ?_ ?_ ?_ (returnRefs_returnsRefs _ e)
  · rfl
  · rfl
  · exact hfreed

/-- What else a report leaves, and what not. -/
theorem report_frame (o : Outcome) :
    (s.report e o).queue = s.queue.tail
      ∧ (s.report e o).completions = s.completions ++ [{ dispatcherRecord e o with sequence := s.sequence }]
      ∧ (s.report e o).sequence = s.sequence + 1
      ∧ (s.report e o).movers = s.movers ∧ (s.report e o).lines = s.lines
      ∧ (s.report e o).dispatcher = s.dispatcher := by
  obtain ⟨ca, h, -⟩ := report_eq s e o
  obtain ⟨sf, fs, ca', hr⟩ := returnRefs_refsOnly
    { s with
      completions := s.completions ++ [{ dispatcherRecord e o with sequence := s.sequence }]
      sequence := s.sequence + 1
      queue := s.queue.tail
      reader := { s.reader with due := s.reader.due || s.reader.state == .waitSpace }
      causes := ca } e
  rw [h, hr]
  exact ⟨rfl, rfl, rfl, rfl, rfl, rfl⟩

/-- An issue is the removal of the head and work on movers, lines and port. -/
theorem issue_portOnly : PortOnly s.removeHead (s.issue e m) := by
  unfold State.issue
  dsimp only
  refine (setMover_portOnly s.removeHead m (Mover.take e)).trans ?_
  split
  · exact startUnit_portOnly _ m
  · exact bind_portOnly _ m _

theorem issue_frame : (s.issue e m).queue = s.queue.tail ∧ (s.issue e m).dispatcher = s.dispatcher := by
  obtain ⟨_, hh⟩ := removeHead_only s
  obtain ⟨_, _, _, _, hp⟩ := issue_portOnly s m e
  rw [hp, hh]
  exact ⟨rfl, rfl⟩

/-- The mover of an issue has the entry as its transfer (R66). -/
theorem issue_transfer : ((s.issue e m).mover m).transfer = some e := by
  have htaken : ((s.removeHead.setMover m (Mover.take e)).mover m).transfer = some e := by
    rw [setMover_mover]
    rfl
  unfold State.issue
  dsimp only
  split
  · exact ((startUnit_books _ m).transfer m).trans htaken
  · exact ((bind_books _ m _).transfer m).trans htaken

end Head

/-! ### An examination -/

theorem examine_halted {s : State} (h : s.dispatcher.halted = true) : s.examine = s := by
  unfold State.examine State.examineHead
  rw [if_pos h]

/-- With nothing in the queue the dispatcher waits for nothing. -/
theorem examineHead_empty (n : Nat) {s : State} (hd : s.dispatcher.halted = false) (hq : s.queue = []) :
    State.examineHead (n + 1) s = s.setWait .none false := by
  unfold State.examineHead
  rw [if_neg (by simp [hd]), hq]

/-- The examination of a single head, by the decision on it. -/
theorem examine_single {s : State} {e : Entry} (hd : s.dispatcher.halted = false) (hq : s.queue = [e]) :
    s.examine =
      match s.decision e with
      | .report o => if s.hasSlot then (s.report e o).setWait .none false else s.setWait .space true
      | .hold r => s.setWait r false
      | .issue m => (s.issue e m).setWait .none false := by
  unfold State.examine
  rw [hq]
  unfold State.examineHead
  rw [if_neg (by simp [hd]), hq]
  dsimp only
  cases s.decision e with
  | hold r => rfl
  | report o =>
    obtain ⟨hqueue, -, -, -, -, hdispatcher⟩ := report_frame s e o
    rw [hq] at hqueue
    exact if_congr Iff.rfl (examineHead_empty 0 (hdispatcher ▸ hd) hqueue) rfl
  | issue m =>
    obtain ⟨hqueue, hdispatcher⟩ := issue_frame s m e
    rw [hq] at hqueue
    exact examineHead_empty 0 (hdispatcher ▸ hd) hqueue

/-- An examination leaves the configuration of the lines. -/
theorem examine_settings (s : State) : SettingsKept s s.examine :=
  examineHead_keeps (SettingsKept s)
    (fun t e _ o h _ _ _ _ => h.trans (.of_lines (report_frame t e o).2.2.2.2.1))
    (fun t e _ m h _ _ _ => h.trans (issue_settings t m e))
    (fun _ _ _ h _ _ _ => h.trans (.of_lines rfl)) _ s (.refl s)

/-- The engine's work that leaves the configuration of the lines leaves every register of the host. -/
theorem hostSide_of_engine {s t : State} (h : EngineOnly s t) (k : SettingsKept s t) : HostSideKept s t := by
  obtain ⟨_, _, _, _, _, _, _, _, _, _, _, _, _, rfl⟩ := h
  exact ⟨rfl, rfl, rfl, rfl, rfl, rfl, rfl, rfl, rfl, rfl, rfl, rfl, rfl, rfl, k⟩

end Sys2Proof.Machine
end

section
/-! POST accepted (O14): what acceptance appends, and what the examination of a new head leaves of it (R46, R49, R57). -/

namespace Sys2Proof.Machine

open Sys2Proof.Safety

/-! ### The decision, read from the tables -/

section Tables

variable {s : State} {e : Entry}

theorem decision_of_hold {r : WaitReason} (h : holdOf s e = some r) : s.decision e = .hold r := by
  have hcase := decision_case s e
  generalize s.decision e = d at hcase ⊢
  cases hcase with
  | report hr => simp [holdOf, hr] at h
  | hold _ hh => rw [Option.some.inj (hh.symm.trans h)]
  | issue _ hh _ => simp [hh] at h

theorem decision_of_report {o : Outcome} (h : reportOf s e = some o) : s.decision e = .report o := by
  have hcase := decision_case s e
  generalize s.decision e = d at hcase ⊢
  cases hcase with
  | report hr => rw [Option.some.inj (hr.symm.trans h)]
  | hold hr _ => simp [hr] at h
  | issue hr _ _ => simp [hr] at h

theorem decision_of_issue {m : MoverIndex} (hr : reportOf s e = none) (hh : holdOf s e = none) (hm : LowestIdle s m) :
    s.decision e = .issue m := by
  have hcase := decision_case s e
  generalize s.decision e = d at hcase ⊢
  cases hcase with
  | report hr' => simp [hr'] at hr
  | hold _ hh' => simp [hh'] at hh
  | issue _ _ hm' => rw [Option.some.inj ((idleMover_eq hm').symm.trans (idleMover_eq hm))]

end Tables

/-! ### The entry after its acceptance -/

/-- An entry that an event appends is in the queue, on a mover, or reported. -/
theorem heldOrReported_examineIf {t : State} {q : List Entry} {e : Entry} (hq : t.queue = q ++ [e]) :
    HeldOrReported (t.examineIf q.isEmpty) e := by
  have hin : HeldOrReported t e := .inl (by simp [hq])
  cases q with
  | cons _ _ => exact hin
  | nil =>
    show HeldOrReported t.examine e
    cases hd : t.dispatcher.halted with
    | true => exact (examine_halted hd).symm ▸ hin
    | false =>
      rw [examine_single hd hq]
      cases t.decision e with
      | hold r => exact hin
      | issue m => exact .inr (.inl ⟨m, issue_transfer t m e⟩)
      | report o =>
        dsimp only
        split
        · refine .inr (.inr ⟨{ dispatcherRecord e o with sequence := t.sequence }, ?_, rfl⟩)
          obtain ⟨-, hrecords, -⟩ := report_frame t e o
          show _ ∈ (t.report e o).completions
          simp [hrecords]
        · exact hin

/-- The state that an acceptance by POST leaves, before the examination of a new head. -/
def State.postAccepted (s : State) (c : Command) (e : Entry) (table : Vector Surface 24) : State :=
  { s with
    queue := s.queue ++ [e]
    surfaces := table
    postResult := { code := .accepted, tag := c.tag, count := s.queue.length + 1 } }

/-- POST of a command that passes every check (R46, R49, R50). -/
theorem exec_post_accepted {s : State} (hreset : s.inReset = false) {c : Command}
    (hc : c = decodeCommand s.commandStaging.toList) (h : acceptanceRefusal s c = none) :
    ∃ (e : Entry) (table : Vector Surface 24),
      EntryOf s c e ∧ Referenced s { s with surfaces := table } c
      ∧ exec .post s = .next ((s.postAccepted c e table).examineIf s.queue.isEmpty) := by
  obtain ⟨e, he⟩ := verdict_accepts h
  obtain ⟨table, htable, href⟩ := enqueue_table (verdict_accepted he).2
  refine ⟨e, table, entryOf_accepted h he, href, ?_⟩
  show Host.Outcome.next (s.unlessReset s.postStaged) = _
  rw [unlessReset_high hreset]
  unfold State.postStaged
  dsimp only
  rw [← hc, he]
  dsimp only
  rw [htable]
  simp only [List.length_append, List.length_singleton]
  rfl

/-- The host's registers after an acceptance by POST: POST_RESULT alone is new. -/
theorem postAccepted_hostSide (s : State) (c : Command) (e : Entry) (table : Vector Surface 24) (wasEmpty : Bool) :
    HostSideKept { s with postResult := { code := .accepted, tag := c.tag, count := s.queue.length + 1 } }
      ((s.postAccepted c e table).examineIf wasEmpty) := by
  have hengine := examineIf_engineOnly (s.postAccepted c e table) wasEmpty
  have hsettings : SettingsKept (s.postAccepted c e table) ((s.postAccepted c e table).examineIf wasEmpty) := by
    cases wasEmpty
    · exact .refl _
    · exact examine_settings _
  exact hostSide_of_engine hengine hsettings

/-- An entry behind others or in HALT is not examined. -/
theorem postAccepted_waits {s : State} (c : Command) (e : Entry) (table : Vector Surface 24)
    (h : s.queue ≠ [] ∨ s.dispatcher.halted = true) :
    (s.postAccepted c e table).examineIf s.queue.isEmpty = s.postAccepted c e table := by
  cases hq : s.queue.isEmpty with
  | false => rfl
  | true => exact examine_halted (h.resolve_left (not_not.mpr (List.isEmpty_iff.mp hq)))

/-- Settles O14: the entry and its acceptance are those of Table 2-6, and a new head is examined by the decision of
Table 3-2. -/
theorem postAppendsEntry : Obligations.PostAppendsEntry := by
  intro s hreset c result haccept
  obtain ⟨e, table, hentry, href, hpost⟩ := exec_post_accepted hreset rfl haccept
  refine ⟨⟨e, _, hpost, hentry, heldOrReported_examineIf rfl, ?_, postAccepted_hostSide s c e table _⟩, fun hwaits => ?_,
    fun hq hd => ?_⟩
  · exact (postAccepted_hostSide s c e table s.queue.isEmpty).2.2.2.2.2.1
  · rw [postAccepted_waits c e table hwaits] at hpost
    exact ⟨e, table, hpost, hentry, href⟩
  · have hhead : s.postAccepted c e table =
        { s with queue := [e], surfaces := table, postResult := result } := by
      have hqueue : s.queue ++ [e] = [e] := congrArg (· ++ [e]) hq
      rw [State.postAccepted, hqueue]
    refine ⟨e, table, hentry, href, ?_⟩
    intro taken waits
    have hdecision : taken.decision e = s.decision e := decision_congr rfl e
    have hexamine := examine_single (s := taken) hd rfl
    rw [hq, hhead] at hpost
    change exec .post s = .next taken.examine at hpost
    rw [hexamine, hdecision] at hpost
    refine ⟨fun r hr => ?_, fun o ho => ?_, fun m hr hh hm => ?_⟩
    · rw [decision_of_hold hr] at hpost
      exact hpost
    · rw [decision_of_report ho] at hpost
      refine ⟨fun hfull => ?_, fun hroom => ?_⟩
      · have hslot : taken.hasSlot = false := decide_eq_false (Nat.not_lt.mpr hfull)
        simp only [hslot, Bool.false_eq_true, if_false] at hpost
        exact hpost
      · have hslot : taken.hasSlot = true := decide_eq_true hroom
        simp only [hslot, if_true] at hpost
        obtain ⟨hqueue, hrecords, hsequence, hmovers, hlines, hdispatcher⟩ := report_frame taken e o
        exact ⟨_, hpost, hrecords, report_returnsRefs taken e o, hqueue, hsequence, hmovers, hlines, by
          rw [State.setWait, hdispatcher]⟩
    · rw [decision_of_issue hr hh hm] at hpost
      dsimp only at hpost
      refine ⟨issue_transfer taken m e, hpost.trans ?_⟩
      rw [State.setWait, (issue_frame taken m e).2]

end Sys2Proof.Machine
end

section
/-! What the window reads (spec/09, section 9.3): the fields of a word that places build, and every readable register by its
fields (O54). -/

namespace Sys2Proof.Machine

open Sys2Proof.Safety

/-! ### The fields of a placed value -/

section Place

variable {low width : Nat} (v : Nat)

theorem place_bit (h : low + width ≤ 32) (i : Nat) :
    (place low width v).getLsbD i = (decide (low ≤ i ∧ i < low + width) && v.testBit (i - low)) := by
  unfold place
  rw [BitVec.getLsbD_shiftLeft, BitVec.getLsbD_ofNat, Nat.testBit_mod_two_pow]
  by_cases hin : low ≤ i ∧ i < low + width
  · have h32 : i < 32 ∧ ¬ i < low ∧ i - low < 32 ∧ i - low < width := by omega
    simp [h32, hin]
  · have hout : i < low ∨ ¬ i - low < width := by omega
    rcases hout with hout | hout <;> simp [hout, hin]

/-- A field that lies inside the place. -/
theorem place_inside {i k : Nat} (h : low + width ≤ 32) (hl : low ≤ i) (hk : i + k ≤ low + width) :
    (place low width v).extractLsb' i k = BitVec.ofNat k (v / 2 ^ (i - low)) := by
  refine BitVec.eq_of_getLsbD_eq fun j hj => ?_
  rw [BitVec.getLsbD_extractLsb', place_bit v h, BitVec.getLsbD_ofNat, Nat.testBit_div_two_pow]
  have hin : low ≤ i + j ∧ i + j < low + width := by omega
  simp only [hj, hin, decide_true, and_self, Bool.true_and]
  congr 1
  omega

/-- The field of the place itself. -/
theorem place_same (h : low + width ≤ 32) : (place low width v).extractLsb' low width = BitVec.ofNat width v := by
  rw [place_inside v h le_rfl le_rfl, Nat.sub_self, pow_zero, Nat.div_one]

/-- A place that begins the word is the word's value. -/
theorem place_toNat (h : width ≤ 32) : (place 0 width v).toNat = v % 2 ^ width := by
  unfold place
  rw [BitVec.shiftLeft_zero, BitVec.toNat_ofNat]
  exact Nat.mod_eq_of_lt ((Nat.mod_lt v (Nat.two_pow_pos width)).trans_le (Nat.pow_le_pow_right (by decide) h))

/-- A field that lies beside the place. -/
theorem place_beside {i k : Nat} (h : low + width ≤ 32) (ho : i + k ≤ low ∨ low + width ≤ i) :
    (place low width v).extractLsb' i k = 0#k := by
  refine BitVec.eq_of_getLsbD_eq fun j hj => ?_
  have hout : ¬ (low ≤ i + j ∧ i + j < low + width) := by omega
  simp [place_bit v h, hout]

theorem place_bit_inside {i : Nat} (h : low + width ≤ 32) (hl : low ≤ i) (hi : i < low + width) :
    (place low width v).getLsbD i = v.testBit (i - low) := by
  simp [place_bit v h, hl, hi]

theorem place_bit_beside {i : Nat} (h : low + width ≤ 32) (ho : i < low ∨ low + width ≤ i) :
    (place low width v).getLsbD i = false := by
  have hout : ¬ (low ≤ i ∧ i < low + width) := by omega
  simp [place_bit v h, hout]

end Place

/-! ### The fields of a placed flag -/

section PlaceFlag

variable {bit : Nat} (b : Bool)

theorem placeFlag_bit (h : bit < 32) : (placeFlag bit b).getLsbD bit = b := by
  rw [placeFlag, place_bit_inside _ h le_rfl (Nat.lt_succ_self bit), Nat.sub_self]
  cases b <;> rfl

theorem placeFlag_bit_beside {i : Nat} (h : bit < 32) (hi : i ≠ bit) : (placeFlag bit b).getLsbD i = false :=
  place_bit_beside _ h (by omega)

theorem placeFlag_beside {i k : Nat} (h : bit < 32) (ho : i + k ≤ bit ∨ bit < i) : (placeFlag bit b).extractLsb' i k = 0#k :=
  place_beside _ h ho

end PlaceFlag

section Words

variable (s : State)

theorem readRegister_commandStaging (k : Fin 7) : s.readRegister (BitVec.ofNat 6 (0x08 + k.val)) = s.commandStaging[k] := by
  have h : s.readRegister (BitVec.ofNat 6 (0x08 + k.val)) = s.commandStaging.toList.getD k.val 0 := by
    fin_cases k <;> rfl
  simp [h]

theorem readRegister_surfaceStaging (k : Fin 7) : s.readRegister (BitVec.ofNat 6 (0x18 + k.val)) = s.surfaceStaging[k] := by
  have h : s.readRegister (BitVec.ofNat 6 (0x18 + k.val)) = s.surfaceStaging.toList.getD k.val 0 := by
    fin_cases k <;> rfl
  simp [h]

theorem readRegister_surfaceView (k : Fin 8) : s.readRegister (BitVec.ofNat 6 (0x20 + k.val)) = s.surfaceViewWord k := by
  fin_cases k <;> rfl

theorem readRegister_completionView (k : Fin 5) :
    s.readRegister (BitVec.ofNat 6 (0x28 + k.val)) = s.completionViewWord k := by
  fin_cases k <;> rfl

theorem readRegister_fault (k : Fin 3) : s.readRegister (BitVec.ofNat 6 (0x2E + k.val)) = s.faultWord k := by
  fin_cases k <;> rfl

theorem readRegister_config (n : LineIndex) : s.readRegister (BitVec.ofNat 6 (0x32 + n.val)) = (s.line n).configWord := by
  fin_cases n <;> rfl

/-- A write-only or unnamed offset reads 0. -/
theorem readRegister_none {offset : Offset}
    (h : offset.toNat ∈ [0x01, 0x0F, 0x10, 0x16, 0x2D, 0x31] ∨ 0x37 ≤ offset.toNat) : s.readRegister offset = 0 := by
  simp only [List.mem_cons, List.not_mem_nil, or_false] at h
  unfold State.readRegister
  dsimp only
  repeat rw [if_neg (by omega)]

/-! ### Codes fit their fields -/

theorem waitReason_code (r : WaitReason) : r.code < 8 := by cases r <;> decide

theorem moverState_code (st : MoverState) : st.code < 4 := by cases st <;> decide

theorem resultCode_code (c : ResultCode) : c.code < 256 := by cases c <;> decide

theorem reason_code (r : Reason) : r.code < 256 := by cases r <;> decide

theorem postCode_code (c : PostCode) : c.code < 256 := by
  cases c with
  | none => decide
  | accepted => decide
  | refused r => exact reason_code r

theorem surfaceState_code (st : SurfaceState) : st.code < 4 := by cases st <;> decide

theorem kind_code (k : Kind) : k.code < 4 := by cases k <;> decide

theorem outcome_code (o : Outcome) : o.code < 8 := by cases o <;> decide

theorem lineState_code (st : LineState) : st.code < 4 := by cases st <;> decide

theorem mode_code (m : Mode) : m.code < 2 := by cases m <;> decide

theorem readerState_code (st : ReaderState) : st.code < 4 := by cases st <;> decide

theorem endReason_code (r : EndReason) : r.code < 8 := by cases r <;> decide

theorem direction_code (d : Direction) : d.code.testBit 0 = true ↔ d = .write := by cases d <;> decide

theorem mode_testBit (m : Mode) : m.code.testBit 0 = true ↔ m = .demand := by cases m <;> decide

theorem moverCode_lt (m : Option MoverIndex) : moverCode m < 4 := by
  cases m with
  | none => decide
  | some m => exact Nat.lt_of_lt_of_le (Nat.succ_lt_succ m.isLt) (by decide)

/-- A shape's code is its own (R173). -/
theorem shapeOfCode_code (x : Option Shape) : shapeOfCode ((x.map Shape.code).getD 0) = x := by
  cases x with
  | none => rfl
  | some sh => cases sh <;> rfl

theorem shape_code (x : Option Shape) : (x.map Shape.code).getD 0 < 8 := by
  cases x with
  | none => decide
  | some sh => cases sh <;> decide

theorem lineOfBits_binding (b : Option LineIndex) : lineOfBits (BitVec.ofNat 2 ((b.map Fin.val).getD 0)) = b.getD 0 := by
  cases b with
  | none => rfl
  | some n => exact Fin.ext (Nat.mod_eq_of_lt n.isLt)

/-! ### The words by their fields -/

/-- A register narrower than a word reads as its value (Table 9-8). -/
theorem place_setWidth {k : Nat} (h : k ≤ 32) (x : BitVec k) : place 0 k x.toNat = x.setWidth 32 := by
  refine BitVec.eq_of_getLsbD_eq fun i hi => ?_
  rw [place_bit x.toNat (by omega), BitVec.getLsbD_setWidth]
  by_cases hk : i < k
  · simp [hi, hk, BitVec.testBit_toNat]
  · simp [hk, BitVec.getLsbD_of_ge x i (Nat.le_of_not_lt hk)]

/-- STATUS (Table 9-4). -/
theorem statusWord_fields (h : WithinCapacity s) :
    let w := s.statusWord
    (w.extractLsb' 0 8).toNat = s.queue.length ∧ (w.extractLsb' 8 8).toNat = s.completions.length
    ∧ (w.extractLsb' 16 3).toNat = s.dispatcher.waitReason.code ∧ w.getLsbD 19 = s.dispatcher.halted
    ∧ (w.extractLsb' 20 2).toNat = (s.mover 0).state.code ∧ (w.extractLsb' 22 2).toNat = (s.mover 1).state.code
    ∧ w.extractLsb' 24 7 = 0#7 ∧ w.getLsbD 31 = s.badAccess := by
  obtain ⟨hq, hc⟩ := h
  have hr := waitReason_code s.dispatcher.waitReason
  have h0 := moverState_code (s.mover 0).state
  have h1 := moverState_code (s.mover 1).state
  simp (disch := decide) only [State.statusWord, BitVec.extractLsb'_or, BitVec.getLsbD_or, place_same, place_beside,
    place_bit_beside, placeFlag_bit, placeFlag_bit_beside, placeFlag_beside, BitVec.zero_or, BitVec.or_zero, Bool.false_or,
    Bool.or_false, BitVec.toNat_ofNat, true_and, and_true]
  omega

/-- CONTROL_RESULT (R168). -/
theorem controlResultWord_fields :
    let w := s.controlResultWord
    (w.extractLsb' 0 8).toNat = s.controlResult.code.code ∧ w.extractLsb' 8 24 = s.controlResult.value := by
  have hcode := resultCode_code s.controlResult.code
  simp (disch := decide) only [State.controlResultWord, BitVec.extractLsb'_or, place_same, place_beside, BitVec.zero_or,
    BitVec.or_zero, BitVec.toNat_ofNat, BitVec.ofNat_toNat, BitVec.setWidth_eq, and_true]
  simpa using hcode

/-- POST_RESULT (Table 9-8). -/
theorem postResultWord_fields :
    let w := s.postResultWord
    (w.extractLsb' 0 8).toNat = s.postResult.code.code ∧ w.extractLsb' 8 8 = s.postResult.tag
    ∧ (s.postResult.count ≤ 16 → (w.extractLsb' 16 8).toNat = s.postResult.count) := by
  have hcode := postCode_code s.postResult.code
  simp (disch := decide) only [State.postResultWord, BitVec.extractLsb'_or, place_same, place_beside, BitVec.zero_or,
    BitVec.or_zero, BitVec.toNat_ofNat, BitVec.ofNat_toNat, BitVec.setWidth_eq, true_and]
  omega

/-- LIST_STATUS (Table 9-8). -/
theorem listStatusWord_fields :
    let w := s.listStatusWord
    (w.extractLsb' 0 2).toNat = s.reader.state.code ∧ (w.extractLsb' 4 3).toNat = s.reader.endReason.code
    ∧ (w.extractLsb' 8 8).toNat = (s.reader.refusal.map Reason.code).getD 0 := by
  have hstate := readerState_code s.reader.state
  have hend := endReason_code s.reader.endReason
  have hreason : (s.reader.refusal.map Reason.code).getD 0 < 256 := by
    cases s.reader.refusal with
    | none => decide
    | some r => exact reason_code r
  simp (disch := decide) only [State.listStatusWord, BitVec.extractLsb'_or, place_same, place_beside, BitVec.zero_or,
    BitVec.or_zero, BitVec.toNat_ofNat]
  generalize (s.reader.refusal.map Reason.code).getD 0 = reason at hreason ⊢
  omega

/-- THRESHOLDS and TIME_BASE within their ranges (Table 9-8). -/
theorem settings_fields (h : SettingsInRange s) :
    (s.thresholdsWord.extractLsb' 0 8).toNat = s.completionThreshold
    ∧ (s.thresholdsWord.extractLsb' 8 8).toNat = s.lowWater
    ∧ (place 0 32 s.timeBase).toNat = s.timeBase := by
  simp (disch := decide) only [State.thresholdsWord, place_toNat, BitVec.extractLsb'_or, place_same, place_beside,
    BitVec.zero_or, BitVec.or_zero, BitVec.toNat_ofNat]
  omega

/-- The state word of SURFACE_VIEW (R173, Table 9-6). -/
theorem surfaceView_state (f : Surface) :
    let w := f.viewWord 7
    (w.extractLsb' 0 2).toNat = f.state.code ∧ (f.refcount ≤ 31 → (w.extractLsb' 8 5).toNat = f.refcount)
    ∧ w.extractLsb' 16 4 = f.generation := by
  have hstate := surfaceState_code f.state
  simp (disch := decide) only [Surface.viewWord, BitVec.extractLsb'_or, place_same, place_beside, BitVec.zero_or,
    BitVec.or_zero, BitVec.toNat_ofNat, BitVec.ofNat_toNat, BitVec.setWidth_eq, and_true]
  omega

/-- The words of SURFACE_VIEW decode to the entry (R173, Table 9-6). -/
theorem surfaceView_fields (f : Surface) {words : Vector Word 7} (h : ∀ k : Fin 7, words[k] = f.viewWord k) {w : Word}
    (hw : w = f.viewWord 7) :
    let d := decodeStaging words
    d.shape = f.shape ∧ d.elementSize = f.elementSize ∧ d.readable = f.readable ∧ d.writable = f.writable
    ∧ d.keyPresent = f.key.isSome ∧ d.key = f.key.getD 0 ∧ d.bindingPresent = f.binding.isSome
    ∧ d.line = f.binding.getD 0 ∧ d.burst = f.burst ∧ d.base = f.base ∧ d.xExtent = f.xExtent
    ∧ d.yExtent = f.yExtent ∧ d.zExtent = f.zExtent ∧ d.rowPitch = f.rowPitch ∧ d.slicePitch = f.slicePitch
    ∧ (w.extractLsb' 0 2).toNat = f.state.code ∧ (f.refcount ≤ 31 → (w.extractLsb' 8 5).toNat = f.refcount)
    ∧ w.extractLsb' 16 4 = f.generation := by
  have hstate := surfaceView_state f
  rw [← hw] at hstate
  have h0 : words[0] = f.viewWord 0 := h 0
  have h1 : words[1] = f.viewWord 1 := h 1
  have h2 : words[2] = f.viewWord 2 := h 2
  have h3 : words[3] = f.viewWord 3 := h 3
  have h4 : words[4] = f.viewWord 4 := h 4
  have h5 : words[5] = f.viewWord 5 := h 5
  have h6 : words[6] = f.viewWord 6 := h 6
  simp (disch := decide) only [decodeStaging, field, flag, h0, h1, h2, h3, h4, h5, h6, Surface.viewWord,
    BitVec.extractLsb'_or, BitVec.getLsbD_or, place_same, place_beside, place_bit_beside, placeFlag_bit, placeFlag_bit_beside,
    placeFlag_beside, BitVec.zero_or, BitVec.or_zero, Bool.false_or, Bool.or_false, BitVec.toNat_ofNat, BitVec.ofNat_toNat,
    BitVec.setWidth_eq, true_and]
  exact ⟨by rw [Nat.mod_eq_of_lt (shape_code f.shape), shapeOfCode_code], lineOfBits_binding f.binding, hstate⟩

/-- SURFACE_VIEW shows the selected entry, and nothing for a select that names none (R21). -/
theorem surfaceViewWord_selected {i : SurfaceIndex} (h : s.surfaceSelect.toNat = i.val) (k : Nat) :
    s.surfaceViewWord k = (s.surface i).viewWord k := by
  unfold State.surfaceViewWord
  rw [h, surfaceIndex_of_lt i.isLt]

theorem surfaceViewWord_none (h : 24 ≤ s.surfaceSelect.toNat) (k : Nat) : s.surfaceViewWord k = 0 := by
  unfold State.surfaceViewWord
  rw [surfaceIndex_of_ge h]

/-- COMPLETION_VIEW by the fields of the head record (R174, Table 9-7). -/
theorem completionView_fields (r : Completion) :
    let w := r.viewWord 0
    (w.extractLsb' 0 3).toNat = r.outcome.code ∧ w.getLsbD 3 = r.signal ∧ (w.extractLsb' 4 2).toNat = r.kind.code
    ∧ (w.extractLsb' 6 2).toNat = moverCode r.mover ∧ w.extractLsb' 8 8 = r.tag ∧ w.extractLsb' 16 16 = r.sequence
    ∧ (r.moved ≤ 16777216 → ((r.viewWord 1).extractLsb' 0 25).toNat = r.moved)
    ∧ ((r.viewWord 1).getLsbD 31 = true ↔ ∃ x ∈ r.fault, x.side = .write)
    ∧ (r.skipped ≤ 16777216 → (r.viewWord 2).toNat = r.skipped)
    ∧ (r.clipped ≤ 16777216 → (r.viewWord 3).toNat = r.clipped)
    ∧ r.viewWord 4 = (r.fault.map FaultItem.address).getD 0 := by
  have houtcome := outcome_code r.outcome
  have hkind := kind_code r.kind
  have hmover := moverCode_lt r.mover
  have hside : ((r.fault.map fun x : FaultItem => x.side.code).getD 0).testBit 0 = true ↔ ∃ x ∈ r.fault, x.side = .write := by
    cases r.fault with
    | none => simp
    | some x => exact (direction_code x.side).trans (by simp)
  simp (disch := decide) only [Completion.viewWord, place_toNat, BitVec.extractLsb'_or, BitVec.getLsbD_or, place_same,
    place_beside, place_bit_inside, place_bit_beside, placeFlag_bit, placeFlag_beside, Nat.sub_self, Bool.false_or, hside,
    BitVec.zero_or, BitVec.or_zero, Bool.or_false, BitVec.toNat_ofNat, BitVec.ofNat_toNat, BitVec.setWidth_eq, true_and,
    and_true]
  omega

/-- The FAULT words by the fields of the record (R174). -/
theorem faultWord_fields {r : FaultRecord} (h : s.dispatcher.fault = some r) :
    let w := s.faultWord 0
    w.getLsbD 0 = true ∧ (w.getLsbD 1 = true ↔ r.item.side = .write) ∧ (w.extractLsb' 2 2).toNat = r.mover.val + 1
    ∧ (w.extractLsb' 4 2).toNat = r.kind.code
    ∧ s.faultWord 1 = r.tag.setWidth 32 ∧ s.faultWord 2 = r.item.address := by
  have hkind := kind_code r.kind
  have hmover := moverCode_lt (some r.mover)
  have hside := direction_code r.item.side
  simp (disch := decide) only [State.faultWord, h, BitVec.extractLsb'_or, BitVec.getLsbD_or, place_same, place_beside,
    place_bit_inside, place_bit_beside, placeFlag_bit, placeFlag_bit_beside, placeFlag_beside, Nat.sub_self, hside,
    Bool.false_or, Bool.or_false, BitVec.zero_or, BitVec.or_zero, BitVec.toNat_ofNat, true_and, and_true]
  exact ⟨Nat.mod_eq_of_lt hmover, Nat.mod_eq_of_lt hkind, place_setWidth (by decide) r.tag⟩

/-- PACING_CONFIG (Table 9-8). -/
theorem configWord_fields (l : PacingLine) :
    l.configWord.extractLsb' 0 16 = l.timeout ∧ (l.configWord.getLsbD 16 = true ↔ l.mode = .demand) := by
  have hmode := mode_testBit l.mode
  simp (disch := decide) only [PacingLine.configWord, BitVec.extractLsb'_or, BitVec.getLsbD_or, place_same, place_beside,
    place_bit_inside, place_bit_beside, Nat.sub_self, Bool.false_or, hmode, BitVec.or_zero, BitVec.ofNat_toNat,
    BitVec.setWidth_eq, and_true]

/-- A field inside one line's byte of PACING_STATUS (R114). -/
theorem pacingStatus_field (n : LineIndex) {j k : Nat} (h : j + k ≤ 8) :
    s.pacingStatusWord.extractLsb' (8 * n.val + j) k = BitVec.ofNat k ((s.line n).statusByte / 2 ^ j) := by
  unfold State.pacingStatusWord
  fin_cases n <;> dsimp only <;> simp (disch := omega) only [BitVec.extractLsb'_or, place_inside, place_beside]
  all_goals simp

theorem pacingStatus_bit (n : LineIndex) {j : Nat} (h : j < 8) :
    s.pacingStatusWord.getLsbD (8 * n.val + j) = (s.line n).statusByte.testBit j := by
  unfold State.pacingStatusWord
  fin_cases n <;> dsimp only <;> simp (disch := omega) only [BitVec.getLsbD_or, place_bit_inside, place_bit_beside]
  all_goals simp

theorem testBit_of_mod {n i : Nat} {b : Bool} (h : n / 2 ^ i % 2 = b.toNat) : n.testBit i = b := by
  rw [Nat.testBit_eq_decide_div_mod_eq, h]
  cases b <;> rfl

/-- The fields of one line's byte of PACING_STATUS (Table 5-4). -/
theorem statusByte_fields (l : PacingLine) :
    l.statusByte % 4 = l.state.code ∧ l.statusByte / 4 % 4 = moverCode l.bound
    ∧ (l.statusByte.testBit 4 = true ↔ (if l.state = .idle then l.mode else l.latchedMode) = .demand)
    ∧ l.statusByte.testBit 5 = l.showsRunning ∧ l.statusByte.testBit 6 = l.endSeen ∧ l.statusByte.testBit 7 = l.request := by
  have hstate := lineState_code l.state
  have hbound := moverCode_lt l.bound
  unfold PacingLine.statusByte
  generalize l.state.code = st at hstate ⊢
  generalize moverCode l.bound = mv at hbound ⊢
  generalize (if l.state = .idle then l.mode else l.latchedMode) = mode
  have hmode := mode_code mode
  have hrunning := Bool.toNat_lt l.showsRunning
  have hend := Bool.toNat_lt l.endSeen
  have hrequest := Bool.toNat_lt l.request
  rw [← mode_testBit]
  refine ⟨by omega, by omega, ?_, testBit_of_mod (by omega), testBit_of_mod (by omega), testBit_of_mod (by omega)⟩
  simp only [Nat.testBit_eq_decide_div_mod_eq, decide_eq_true_eq]
  omega

theorem showsRunning_iff (l : PacingLine) :
    l.showsRunning = true ↔ (l.state = .wait ∨ l.state = .waitLow) ∧ l.latchedTimeout ≠ 0 := by
  simp [PacingLine.showsRunning]

/-- One line in PACING_STATUS (R114, Table 9-8). -/
theorem pacingStatusWord_fields (n : LineIndex) :
    let l := s.line n
    let w := s.pacingStatusWord
    (w.extractLsb' (8 * n.val) 2).toNat = l.state.code
    ∧ (w.extractLsb' (8 * n.val + 2) 2).toNat = moverCode l.bound
    ∧ (w.getLsbD (8 * n.val + 4) = true ↔ (if l.state = .idle then l.mode else l.latchedMode) = .demand)
    ∧ (w.getLsbD (8 * n.val + 5) = true ↔ (l.state = .wait ∨ l.state = .waitLow) ∧ l.latchedTimeout ≠ 0)
    ∧ w.getLsbD (8 * n.val + 6) = l.endSeen ∧ w.getLsbD (8 * n.val + 7) = l.request := by
  intro l w
  obtain ⟨hstate, hbound, hmode, hrunning, hend, hrequest⟩ := statusByte_fields l
  refine ⟨?_, ?_, ?_, ?_, ?_, ?_⟩
  · rw [← hstate]
    exact (congrArg BitVec.toNat (pacingStatus_field s n (j := 0) (by decide))).trans (by simp [l])
  · rw [← hbound, pacingStatus_field s n (j := 2) (by decide)]
    exact BitVec.toNat_ofNat _ _
  · rw [← hmode, pacingStatus_bit s n (by decide)]
  · rw [← showsRunning_iff, ← hrunning, pacingStatus_bit s n (by decide)]
  · rw [← hend, pacingStatus_bit s n (by decide)]
  · rw [← hrequest, pacingStatus_bit s n (by decide)]

/-- COMPLETION_VIEW of an empty queue (R124). -/
theorem completionViewWord_empty (h : s.completions = []) :
    s.completionViewWord 0 = s.sequence.setWidth 32 <<< 16 ∧ ∀ k, k ≠ 0 → s.completionViewWord k = 0 := by
  unfold State.completionViewWord
  rw [h]
  refine ⟨?_, fun k hk => if_neg hk⟩
  refine (if_pos rfl).trans ?_
  unfold place
  rw [Nat.mod_eq_of_lt s.sequence.isLt, BitVec.ofNat_toNat]

end Words

/-- Settles O54, register by register. -/
theorem readsShowState : Obligations.ReadsShowState := by
  intro s hcapacity
  refine ⟨fun k => ⟨readRegister_commandStaging s k, readRegister_surfaceStaging s k⟩, place_setWidth (by decide) _, rfl,
    statusWord_fields s hcapacity, fun i hi => ?view, fun hi k => ?noView, fun r rest hr => ?completion,
    fun hempty => ?noCompletion, controlResultWord_fields s, postResultWord_fields s, listStatusWord_fields s, rfl, rfl,
    place_setWidth (by decide) _, settings_fields s, fun hf k => ?noFault, fun r hf => faultWord_fields s hf, fun n => ?line,
    fun offset h => readRegister_none s h, fun _ _ => rfl⟩
  case view =>
    have hview (k : Fin 8) : s.readRegister (BitVec.ofNat 6 (0x20 + k.val)) = (s.surface i).viewWord k := by
      rw [readRegister_surfaceView, surfaceViewWord_selected s hi]
    refine surfaceView_fields (s.surface i) (fun k => ?_) (hview 7)
    rw [Fin.getElem_fin, Vector.getElem_ofFn]
    exact hview k.castSucc
  case noView => rw [readRegister_surfaceView, surfaceViewWord_none s hi]
  case completion =>
    have hview (k : Fin 5) : s.readRegister (BitVec.ofNat 6 (0x28 + k.val)) = r.viewWord k := by
      rw [readRegister_completionView, State.completionViewWord, hr]
    rw [show s.readRegister 0x28 = _ from hview 0, show s.readRegister 0x29 = _ from hview 1,
      show s.readRegister 0x2A = _ from hview 2, show s.readRegister 0x2B = _ from hview 3,
      show s.readRegister 0x2C = _ from hview 4]
    exact completionView_fields r
  case noCompletion =>
    obtain ⟨hfirst, hrest⟩ := completionViewWord_empty s hempty
    refine ⟨hfirst, fun k => ?_⟩
    have hk := readRegister_completionView s k.succ
    rw [Fin.val_succ, Nat.add_comm k.val, ← Nat.add_assoc] at hk
    rw [hk, hrest _ (by omega)]
  case noFault =>
    rw [readRegister_fault, State.faultWord, hf]
  case line =>
    obtain ⟨htimeout, hmode⟩ := configWord_fields (s.line n)
    rw [readRegister_config]
    exact ⟨htimeout, hmode, pacingStatusWord_fields s n⟩

end Sys2Proof.Machine
end

section
/-! Commands from their acceptance to the pop of their record (O42): what each operation of the engine does to the tickets that
the device holds. -/

namespace Sys2Proof.Machine

open Sys2Proof.Safety

/-! ### The master port and the list reader -/

/-- `t` differs from `s` at most in movers, list reader, master port, and the count of free choices. -/
def ArbiterOnly (s t : State) : Prop :=
  ∃ dr ms rd ro gr, t = { s with draws := dr, movers := ms, reader := rd, rotation := ro, grant := gr }

theorem ArbiterOnly.refl (s : State) : ArbiterOnly s s := ⟨_, _, _, _, _, rfl⟩

theorem ArbiterOnly.trans {s t u : State} (h : ArbiterOnly s t) (k : ArbiterOnly t u) : ArbiterOnly s u := by
  obtain ⟨_, _, _, _, _, rfl⟩ := h
  obtain ⟨_, _, _, _, _, rfl⟩ := k
  exact ⟨_, _, _, _, _, rfl⟩

section Arbiter

variable (s : State)

theorem setWaiting_arbiterOnly (r : Requester) (b : Option Burst) : ArbiterOnly s (s.setWaiting r b) := by
  cases r <;> exact ⟨_, _, _, _, _, rfl⟩

theorem grantTo_arbiterOnly (r : Requester) (b : Burst) : ArbiterOnly s (s.grantTo r b) := ⟨_, _, _, _, _, rfl⟩

theorem requestBurst_arbiterOnly (r : Requester) (b : Burst) : ArbiterOnly s (s.requestBurst r b) := by
  unfold State.requestBurst
  split
  · exact grantTo_arbiterOnly s r b
  · exact setWaiting_arbiterOnly s r _

theorem releasePort_arbiterOnly : ArbiterOnly s s.releasePort := by
  have h : ArbiterOnly s { s with grant := none } := ⟨_, _, _, _, _, rfl⟩
  unfold State.releasePort
  dsimp only
  split
  · exact h
  · split
    · exact h
    · exact (h.trans (setWaiting_arbiterOnly _ _ _)).trans (grantTo_arbiterOnly _ _ _)

theorem eitherOrder_arbiterOnly (t : State) : ArbiterOnly t (s.eitherOrder t) := by
  unfold State.eitherOrder
  split
  · split
    · exact .refl t
    · rename_i g r _ _ _ _ b _
      have hdraw : ArbiterOnly t { t with draws := t.draws + 1 } := ⟨_, _, _, _, _, rfl⟩
      dsimp only
      split
      · exact ((hdraw.trans (setWaiting_arbiterOnly _ r none)).trans (setWaiting_arbiterOnly _ g.owner (some g.burst))).trans
          ⟨_, _, _, _, _, rfl⟩
      · exact hdraw
  · exact .refl t

theorem takeData_arbiterOnly (r : Requester) (w : Bool) (b : Beat) (d : Word) : ArbiterOnly s (s.takeData r w b d) := by
  unfold State.takeData
  split
  · exact .refl s
  · split <;> exact ⟨_, _, _, _, _, rfl⟩

theorem disown_arbiterOnly (r : Requester) : ArbiterOnly s (s.disown r) := by
  unfold State.disown
  split
  · split
    · exact ⟨_, _, _, _, _, rfl⟩
    · exact .refl s
  · exact .refl s

end Arbiter

/-! ### Counting the tickets -/

/-- The ticket of a transfer that may be absent. -/
def ticketsIn (t : Option Entry) : List Ticket :=
  t.toList.map ticketOf

theorem tickets_eq (s : State) :
    tickets s = s.queue.map ticketOf ++ (ticketsIn (s.mover 0).transfer ++ ticketsIn (s.mover 1).transfer)
      ++ s.completions.map ticketOfRecord := by
  unfold tickets State.inFlight ticketsIn
  cases h0 : (s.mover 0).transfer <;> cases h1 : (s.mover 1).transfer <;> simp [h0, h1]

/-- The tickets where queue, transfers and records have the same. -/
theorem tickets_congr {s t : State} (hq : t.queue.map ticketOf = s.queue.map ticketOf)
    (hm : ∀ m, (t.mover m).transfer = (s.mover m).transfer) (hc : t.completions = s.completions) : tickets t = tickets s := by
  rw [tickets_eq, tickets_eq, hq, hm, hm, hc]

/-- A mover gives up its transfer and takes another. -/
theorem tickets_setMover (s : State) (m : MoverIndex) (v : Mover) :
    (tickets (s.setMover m v) ++ ticketsIn (s.mover m).transfer).Perm (tickets s ++ ticketsIn v.transfer) := by
  rw [List.perm_iff_count]
  intro k
  simp only [tickets_eq, List.count_append, setMover_queue, setMover_completions]
  fin_cases m
  · simp
    omega
  · simp
    omega

/-- An IDLE mover holds no transfer (R73). -/
def IdleEmpty (s : State) : Prop :=
  ∀ m : MoverIndex, (s.mover m).state = .idle → (s.mover m).transfer = none

/-- From `s` to `t` the commands `accepted` have come and the records of `popped` have gone; every other command is held or
reported as before, none lost and none doubled. -/
def Accounts (accepted popped : List Ticket) (s t : State) : Prop :=
  IdleEmpty s → (tickets s ++ accepted).Perm (tickets t ++ popped) ∧ IdleEmpty t

/-- No command comes, goes, is lost or doubled. -/
abbrev Conserves (s t : State) : Prop :=
  Accounts [] [] s t

theorem Conserves.refl (s : State) : Conserves s s := fun h => ⟨.refl _, h⟩

theorem Accounts.trans {a p : List Ticket} {s t u : State} (h : Accounts a p s t) (k : Conserves t u) : Accounts a p s u := by
  intro hs
  obtain ⟨hperm, ht⟩ := h hs
  obtain ⟨kperm, hu⟩ := k ht
  simp only [List.append_nil] at kperm
  exact ⟨hperm.trans (kperm.append_right p), hu⟩

theorem Conserves.followedBy {a p : List Ticket} {s t u : State} (h : Conserves s t) (k : Accounts a p t u) :
    Accounts a p s u := by
  intro hs
  obtain ⟨hperm, ht⟩ := h hs
  obtain ⟨kperm, hu⟩ := k ht
  simp only [List.append_nil] at hperm
  exact ⟨(hperm.append_right a).trans kperm, hu⟩

/-- Equal books and the same tickets and records. -/
theorem conserves_of_books {s t : State} (h : BooksKept s t) (hq : t.queue.map ticketOf = s.queue.map ticketOf)
    (hc : t.completions = s.completions) : Conserves s t := by
  refine fun hs => ⟨?_, fun m hm => ?_⟩
  · rw [tickets_congr hq h.transfer hc]
  · rw [h.transfer]
    exact hs m (h.idle m hm)

/-- Work on movers, lines and port that keeps every transfer. -/
theorem conserves_of_port {s t : State} (h : BooksKept s t) (hp : PortOnly s t) : Conserves s t := by
  obtain ⟨_, _, _, _, rfl⟩ := hp
  exact conserves_of_books h rfl rfl

theorem conserves_of_arbiter {s t : State} (h : BooksKept s t) (ha : ArbiterOnly s t) : Conserves s t := by
  obtain ⟨_, _, _, _, _, rfl⟩ := ha
  exact conserves_of_books h rfl rfl

theorem conserves_of_refs {s t : State} (h : RefsOnly s t) : Conserves s t := by
  obtain ⟨_, _, _, rfl⟩ := h
  exact .refl s

/-- An update that leaves queue, movers and records alone. -/
theorem conserves_of_eq {s t : State} (hq : t.queue = s.queue) (hm : t.movers = s.movers)
    (hc : t.completions = s.completions) : Conserves s t := by
  refine fun hs => ⟨?_, fun m => ?_⟩
  · rw [tickets_congr (by rw [hq]) (fun m => by rw [mover_congr hm]) hc]
  · rw [mover_congr hm]
    exact hs m

/-! ### The engine's own work -/

section Engine

variable (s : State) (m : MoverIndex)

/-- A transfer that ends passes from its mover to its record (R92, R94). -/
theorem serveMover_conserves : Conserves s (s.serveMover m) := by
  unfold State.serveMover
  dsimp only
  split
  · rename_i t o ht _
    split
    · refine Accounts.trans (fun hs => ⟨?_, fun k hk => ?_⟩) (conserves_of_refs (returnRefs_refsOnly _ t))
      · obtain ⟨_, hr⟩ := appendRecord_only s (moverRecord m (s.mover m) t o)
        have hset := tickets_setMover (s.appendRecord (moverRecord m (s.mover m) t o)) m Mover.idle
        have hrecord : tickets (s.appendRecord (moverRecord m (s.mover m) t o)) = tickets s ++ [ticketOf t] := by
          rw [hr, tickets_eq, tickets_eq]
          simp only [List.map_append, List.append_assoc]
          rfl
        have hmover : (s.appendRecord (moverRecord m (s.mover m) t o)).mover m = s.mover m := by
          rw [hr]
          rfl
        rw [hrecord, hmover, ht, show ticketsIn Mover.idle.transfer = [] from rfl, List.append_nil] at hset
        exact (List.append_nil _ ▸ ((List.perm_append_right_iff _).mp hset).symm.append_right [])
      · by_cases hkm : k = m
        · rw [hkm, setMover_mover]
          rfl
        · rw [setMover_mover_ne _ hkm] at hk ⊢
          obtain ⟨_, hr⟩ := appendRecord_only s (moverRecord m (s.mover m) t o)
          rw [hr] at hk ⊢
          exact hs k hk
    · exact .refl s
  · exact .refl s

/-- A head that the dispatcher reports passes from the queue to its record (R59, R60, R61). -/
theorem report_conserves {e : Entry} {q : List Entry} (hq : s.queue = e :: q) (o : Outcome) : Conserves s (s.report e o) := by
  obtain ⟨hqueue, hrecords, -, hmovers, -, -⟩ := report_frame s e o
  refine fun hs => ⟨?_, fun k => ?_⟩
  · have hticket : ticketOfRecord { dispatcherRecord e o with sequence := s.sequence } = ticketOf e := rfl
    rw [tickets_eq, tickets_eq, mover_congr hmovers, mover_congr hmovers, hqueue, hrecords, hq, List.perm_iff_count]
    intro k
    simp only [List.count_append, List.map_append, List.map_cons, List.map_nil, List.tail_cons, hticket, List.count_cons,
      List.count_nil]
    omega
  · rw [mover_congr hmovers]
    exact hs k

/-- A head that is issued passes from the queue to its mover, which was IDLE (R66). -/
theorem issue_conserves {e : Entry} {q : List Entry} (hq : s.queue = e :: q) (hm : (s.mover m).state = .idle) :
    Conserves s (s.issue e m) := by
  have htaken : Conserves s (s.removeHead.setMover m (Mover.take e)) := by
    obtain ⟨_, hr⟩ := removeHead_only s
    refine fun hs => ⟨?_, fun k hk => ?_⟩
    · have hset := tickets_setMover s.removeHead m (Mover.take e)
      have hhead : (ticketOf e :: tickets s.removeHead) = tickets s := by
        rw [hr, tickets_eq, tickets_eq, hq]
        rfl
      have hmover : s.removeHead.mover m = s.mover m := by
        rw [hr]
        rfl
      rw [hmover, hs m hm] at hset
      rw [← hhead]
      simp only [ticketsIn, Mover.take, Option.toList_none, List.map_nil, Option.toList_some, List.map_cons,
        List.append_nil] at hset ⊢
      exact (List.perm_append_singleton _ _).symm.trans hset.symm
    · by_cases hkm : k = m
      · rw [hkm, setMover_mover] at hk
        simp only [Mover.take] at hk
        split at hk <;> cases hk
      · rw [setMover_mover_ne _ hkm] at hk ⊢
        rw [hr] at hk ⊢
        exact hs k hk
  unfold State.issue
  dsimp only
  split
  · exact htaken.trans (conserves_of_port (startUnit_books _ m) (startUnit_portOnly _ m))
  · exact htaken.trans (conserves_of_port (bind_books _ m _) (bind_portOnly _ m _))

theorem examine_conserves : Conserves s s.examine :=
  examineHead_keeps (Conserves s) (fun t _ _ o h _ hq _ _ => h.trans (report_conserves t hq o))
    (fun t _ _ m h _ hq hd => h.trans (issue_conserves t m hq (decision_issue_idle hd)))
    (fun _ _ _ h _ _ _ => h.trans (conserves_of_eq rfl rfl rfl)) _ s (.refl s)

theorem settle_conserves : Conserves s s.settle :=
  ((serveMover_conserves s 0).trans (serveMover_conserves _ 1)).trans (examine_conserves _)

theorem endTransfer_conserves (o : Outcome) (f : Option FaultItem) : Conserves s (s.endTransfer m o f) :=
  (conserves_of_port (finish_books s m o f) (finish_portOnly s m o f)).trans (settle_conserves _)

/-- A mover whose items but its transfer and state change. -/
theorem setMover_conserves {v : Mover} (ht : v.transfer = (s.mover m).transfer) (hs : v.state = (s.mover m).state) :
    Conserves s (s.setMover m v) :=
  conserves_of_port (setMover_items_books s m v ht hs) (setMover_portOnly s m v)

theorem eitherOrder_conserves {t : State} {a p : List Ticket} (h : Accounts a p s t) (b : State) :
    Accounts a p s (b.eitherOrder t) :=
  h.trans (conserves_of_arbiter (eitherOrder_books b t) (eitherOrder_arbiterOnly b t))

theorem unitComplete_conserves : Conserves s (s.unitComplete m) := by
  unfold State.unitComplete
  dsimp only
  split
  · exact .refl s
  · rename_i t _
    have hcount : Conserves s (s.setMover m ((s.mover m).counted (s.unitElements t (s.mover m).position))) :=
      setMover_conserves s m rfl rfl
    have hnext := hcount.trans (setMover_conserves _ m (v := (State.mover _ m).advanced) rfl rfl)
    split
    · exact hcount.trans (endTransfer_conserves _ m _ _)
    · split
      · exact hcount.trans (endTransfer_conserves _ m _ _)
      · split
        · exact hnext.trans (conserves_of_port (startUnit_books _ m) (startUnit_portOnly _ m))
        · split
          · exact hcount.trans (endTransfer_conserves _ m _ _)
          · exact hnext.trans (conserves_of_port (burstContinues_books _ m _) (burstContinues_portOnly _ m _))

theorem launch_conserves (bursts : List Burst) : Conserves s (s.launch m bursts) :=
  conserves_of_port (launch_books s m bursts) (launch_portOnly s m bursts)

theorem startWrite_conserves : Conserves s (s.startWrite m) := by
  unfold State.startWrite
  dsimp only
  split
  · exact .refl s
  · rename_i t _
    have hcompared : Conserves s (s.setMover m ((s.mover m).compared
        ((elementsOf (s.elementBytes t) (s.mover m).buffer).countP (s.skips t)))) := setMover_conserves s m rfl rfl
    split
    · exact hcompared.trans (unitComplete_conserves _ m)
    · exact hcompared.trans (launch_conserves _ m _)

theorem continueSide_conserves : Conserves s (s.continueSide m) := by
  unfold State.continueSide
  dsimp only
  split
  · exact launch_conserves s m _
  · split
    · exact startWrite_conserves s m
    · exact unitComplete_conserves s m

theorem moverFault_conserves (x : FaultItem) : Conserves s (s.moverFault m x) := by
  unfold State.moverFault
  split
  · exact .refl s
  · rename_i t _
    refine Accounts.trans ?_ (endTransfer_conserves _ m _ _)
    unfold State.captureFault
    split
    · exact Conserves.refl s
    · exact conserves_of_eq rfl rfl rfl

theorem endFromLine_conserves (n : LineIndex) (o : Outcome) : Conserves s (s.endFromLine n o) := by
  unfold State.endFromLine
  split
  · exact .refl s
  · exact eitherOrder_conserves s (endTransfer_conserves s _ o none) s

theorem examineIf_conserves (b : Bool) : Conserves s (s.examineIf b) := by
  cases b
  · exact .refl s
  · exact examine_conserves s

end Engine

/-! ### Acceptance, and the commands of the table -/

section Commands

variable (s : State)

/-- At most one command comes. -/
def AcceptsOne (s t : State) : Prop :=
  ∃ accepted, accepted.length ≤ 1 ∧ Accounts accepted [] s t

theorem Accounts.acceptsOne {s t : State} (h : Conserves s t) : AcceptsOne s t := ⟨[], by simp, h⟩

theorem setReader_conserves (r : ListReader) : Conserves s { s with reader := r } := conserves_of_eq rfl rfl rfl

theorem endList_conserves (w : EndReason) (r : Option Reason) : Conserves s (s.endList w r) := conserves_of_eq rfl rfl rfl

theorem enterFetch_conserves (a : Word) : Conserves s (s.enterFetch a) := conserves_of_eq rfl rfl rfl

theorem result_conserves (c : ResultCode) (v : Nat) : Conserves s (s.result c v) := conserves_of_eq rfl rfl rfl

theorem requestBurst_conserves (r : Requester) (b : Burst) : Conserves s (s.requestBurst r b) :=
  conserves_of_arbiter (requestBurst_books s r b) (requestBurst_arbiterOnly s r b)

theorem AcceptsOne.trans {s t u : State} (h : AcceptsOne s t) (k : Conserves t u) : AcceptsOne s u := by
  obtain ⟨a, ha, h⟩ := h
  exact ⟨a, ha, h.trans k⟩

theorem AcceptsOne.after {s t u : State} (h : Conserves s t) (k : AcceptsOne t u) : AcceptsOne s u := by
  obtain ⟨a, ha, k⟩ := k
  exact ⟨a, ha, h.followedBy k⟩

theorem AcceptsOne.eitherOrder {s t : State} (h : AcceptsOne s t) (b : State) : AcceptsOne s (b.eitherOrder t) :=
  h.trans (eitherOrder_conserves t (Conserves.refl t) b)

/-- An accepted entry enters the queue (R46). -/
theorem enqueue_accounts (e : Entry) : Accounts [ticketOf e] [] s (s.enqueue e) := by
  obtain ⟨table, h⟩ := addRefs_only s e
  unfold State.enqueue
  rw [h]
  refine fun hs => ⟨?_, hs⟩
  rw [tickets_eq, tickets_eq, List.perm_iff_count]
  intro k
  simp only [List.map_append, List.count_append, List.map_cons, List.map_nil, List.append_nil]
  change _ + (_ + _) + _ + _ = _ + _ + (List.count k (ticketsIn (s.mover 0).transfer)
    + List.count k (ticketsIn (s.mover 1).transfer)) + _
  omega

theorem enqueue_acceptsOne (e : Entry) : AcceptsOne s (s.enqueue e) :=
  ⟨_, by simp, enqueue_accounts s e⟩

theorem postStaged_acceptsOne : AcceptsOne s s.postStaged := by
  unfold State.postStaged
  dsimp only
  split
  · exact (conserves_of_eq rfl rfl rfl).acceptsOne
  · rename_i e _
    refine ((enqueue_acceptsOne s e).trans ?_).trans (examineIf_conserves _ _)
    exact conserves_of_eq rfl rfl rfl

theorem present_acceptsOne (record : Vector Word 8) : AcceptsOne s (s.present record) := by
  unfold State.present
  split
  · exact (setReader_conserves s _).acceptsOne
  · exact (endList_conserves s _ _).acceptsOne
  · rename_i e _
    have hcount := (enqueue_acceptsOne s e).trans (setReader_conserves (s.enqueue e)
      { (s.enqueue e).reader with count := (s.enqueue e).reader.count + 1 })
    dsimp only
    split
    · exact (hcount.trans (endList_conserves _ _ _)).trans (examineIf_conserves _ _)
    · exact ((hcount.trans (enterFetch_conserves _ _)).trans (examineIf_conserves _ _)).trans (requestBurst_conserves _ _ _)

theorem presentAgain_acceptsOne : AcceptsOne s s.presentAgain := by
  unfold State.presentAgain
  split
  · split
    · exact (Conserves.refl s).acceptsOne
    · exact (present_acceptsOne s _).eitherOrder s
  · exact (Conserves.refl s).acceptsOne

theorem releasePort_conserves : Conserves s s.releasePort :=
  conserves_of_arbiter (releasePort_books s) (releasePort_arbiterOnly s)

theorem completeBurst_acceptsOne (g : Grant) : AcceptsOne s (s.completeBurst g) := by
  unfold State.completeBurst
  dsimp only
  split
  · refine AcceptsOne.after (releasePort_conserves s) (AcceptsOne.eitherOrder ?_ _)
    cases g.owner with
    | mover m => exact (continueSide_conserves _ m).acceptsOne
    | reader => exact present_acceptsOne _ _
  · exact (releasePort_conserves s).acceptsOne

theorem answerBeat_acceptsOne (d : Word) : AcceptsOne s (s.answerBeat d) := by
  unfold State.answerBeat
  split
  · exact (Conserves.refl s).acceptsOne
  · rename_i g _
    split
    · exact (Conserves.refl s).acceptsOne
    · rename_i b rest _
      have htaken : Conserves s (if g.live then s.takeData g.owner g.burst.write b d else s) := by
        split
        · exact conserves_of_arbiter (takeData_books s _ _ _ _) (takeData_arbiterOnly s _ _ _ _)
        · exact .refl s
      dsimp only
      split
      · exact AcceptsOne.after htaken (completeBurst_acceptsOne _ g)
      · exact (htaken.trans (conserves_of_eq rfl rfl rfl)).acceptsOne

theorem failBeat_conserves : Conserves s s.failBeat := by
  unfold State.failBeat
  split
  · exact .refl s
  · rename_i g _
    split
    · exact .refl s
    · dsimp only
      split
      · refine (releasePort_conserves s).trans ?_
        cases g.owner with
        | mover m => exact moverFault_conserves _ m _
        | reader => exact conserves_of_eq rfl rfl rfl
      · exact releasePort_conserves s

/-- A pop takes the record of one command, and no more (R125). -/
theorem popCompletion_accounts : ∃ popped, popped.length ≤ 1 ∧ Accounts [] popped s s.popCompletion := by
  unfold State.popCompletion
  split
  · exact ⟨[], by simp, conserves_of_eq rfl rfl rfl⟩
  · rename_i r rest hr
    have hpop : Accounts [] [ticketOfRecord r] s { s with completions := rest } := by
      refine fun hs => ⟨?_, hs⟩
      rw [tickets_eq, tickets_eq, hr, List.perm_iff_count]
      intro k
      simp only [List.count_append, List.map_cons, List.count_cons, List.count_nil]
      change _ = _ + (List.count k (ticketsIn (s.mover 0).transfer) + List.count k (ticketsIn (s.mover 1).transfer)) + _ + _
      omega
    refine ⟨[ticketOfRecord r], by simp, ?_⟩
    dsimp only
    split
    · exact hpop
    · exact eitherOrder_conserves s (hpop.trans (settle_conserves _)) s

/-- A mark changes no ticket (R48). -/
theorem abortByTag_conserves (tag : Tag) : Conserves s (s.abortByTag tag) := by
  have hmark : Conserves s { s with queue := s.queue.map (Entry.mark tag) } := by
    refine conserves_of_books ⟨rfl, ?_, fun _ => rfl, fun _ => id⟩ ?_ rfl
    all_goals
      rw [List.map_map]
      refine List.map_congr_left fun e _ => ?_
      simp only [Function.comp_apply, Entry.mark]
      split <;> rfl
  have hstop := (hmark.trans (conserves_of_port (stopMover_books _ 0 tag) (stopMover_portOnly _ 0 tag))).trans
    (conserves_of_port (stopMover_books _ 1 tag) (stopMover_portOnly _ 1 tag))
  unfold State.abortByTag
  dsimp only
  refine Accounts.trans ?_ (conserves_of_eq rfl rfl rfl)
  split
  · exact hstop
  · exact eitherOrder_conserves s (hstop.trans (settle_conserves _)) s

theorem resumeDispatch_conserves : Conserves s s.resumeDispatch := by
  unfold State.resumeDispatch
  split
  · refine Accounts.trans (eitherOrder_conserves s ?_ s) (result_conserves _ _ _)
    refine Accounts.trans ?_ (examine_conserves _)
    exact conserves_of_eq rfl rfl rfl
  · exact result_conserves s _ _

theorem stopList_conserves : Conserves s s.stopList := by
  unfold State.stopList
  split
  · exact .refl s
  all_goals
    exact (endList_conserves s _ _).trans (conserves_of_arbiter (disown_books _ _) (disown_arbiterOnly _ _))

theorem startList_conserves : Conserves s s.startList := by
  unfold State.startList
  split
  · exact conserves_of_eq rfl rfl rfl
  · split
    · exact conserves_of_eq rfl rfl rfl
    · dsimp only
      exact (((setReader_conserves s _).trans (enterFetch_conserves _ _)).trans (requestBurst_conserves _ _ _)).trans
        (result_conserves _ _ _)

theorem stopListCommand_conserves : Conserves s s.stopListCommand := by
  unfold State.stopListCommand
  split
  · exact conserves_of_eq rfl rfl rfl
  all_goals exact (stopList_conserves s).trans (conserves_of_eq rfl rfl rfl)

theorem requestRises_conserves (n : LineIndex) : Conserves s (s.requestRises n) := by
  unfold State.requestRises
  dsimp only
  split
  · exact Accounts.trans (t := s.setRequest n true) (conserves_of_eq rfl rfl rfl)
      (conserves_of_port (admitBurst_books _ _ n) (admit_portOnly _ _ n))
  · exact conserves_of_eq rfl rfl rfl

theorem endEdge_conserves (n : LineIndex) : Conserves s (s.endEdge n) := by
  unfold State.endEdge
  split
  · exact .refl s
  · exact conserves_of_eq rfl rfl rfl
  all_goals exact endFromLine_conserves s n _

theorem timerExpires_conserves (n : LineIndex) : Conserves s (s.timerExpires n) := by
  unfold State.timerExpires
  split
  · exact endFromLine_conserves s n _
  · exact .refl s

theorem writePlain_conserves (offset : Offset) (v : Word) : Conserves s (s.writePlain offset v) := by
  unfold State.writePlain
  dsimp only
  repeat' split
  all_goals exact conserves_of_eq rfl rfl rfl

theorem releaseSurface_conserves (k : BitVec 8) : Conserves s (s.releaseSurface k) := by
  unfold State.releaseSurface
  dsimp only
  repeat' split
  all_goals exact conserves_of_eq rfl rfl rfl

theorem defineSurface_conserves (k : BitVec 8) : Conserves s (s.defineSurface k) := by
  unfold State.defineSurface
  dsimp only
  repeat' split
  all_goals exact conserves_of_eq rfl rfl rfl

end Commands

theorem unlessReset_conserves {s t : State} (h : Conserves s t) : Conserves s (s.unlessReset t) :=
  unlessReset_keeps (P := Conserves s) (.refl s) h

theorem unlessReset_acceptsOne {s t : State} (h : AcceptsOne s t) : AcceptsOne s (s.unlessReset t) :=
  unlessReset_keeps (P := AcceptsOne s) (Conserves.refl s).acceptsOne h

/-- The commands that bring no acceptance and no pop. -/
theorem exec_conserves {i : Instr} {s t : State} (hw : i.wellFormed = true) (hflush : i ≠ .flush)
    (hengine : i ≠ .engineReset) (hfull : i ≠ .fullReset) (hpop : i ≠ .completionPop) (hpost : i ≠ .post)
    (hagain : i ≠ .waitSpacePresentation) (hbeat : ∀ data, i ≠ .beatAnswered data) (he : exec i s = .next t) :
    Conserves s t := by
  cases i <;> cases next_inj he
  case define k => exact unlessReset_conserves (defineSurface_conserves s k)
  case release k => exact unlessReset_conserves (releaseSurface_conserves s k)
  case resume => exact unlessReset_conserves (resumeDispatch_conserves s)
  case flush => exact absurd rfl hflush
  case abortTag tag => exact unlessReset_conserves (abortByTag_conserves s tag)
  case listStart => exact unlessReset_conserves (startList_conserves s)
  case listStop => exact unlessReset_conserves (stopListCommand_conserves s)
  case engineReset => exact absurd rfl hengine
  case unknownCommand code operand =>
    rw [control_unknown hw]
    exact unlessReset_conserves (result_conserves s _ _)
  case post => exact absurd rfl hpost
  case completionPop => exact absurd rfl hpop
  case intCauseWrite v => exact unlessReset_conserves (conserves_of_eq rfl rfl rfl)
  case intEnableWrite v => exact unlessReset_conserves (conserves_of_eq rfl rfl rfl)
  case freedSetWrite v => exact unlessReset_conserves (conserves_of_eq rfl rfl rfl)
  case statusWrite v =>
    refine unlessReset_conserves ?_
    unfold State.writeStatus
    split <;> exact conserves_of_eq rfl rfl rfl
  case timeBaseWrite v => exact unlessReset_conserves (conserves_of_eq rfl rfl rfl)
  case registerWrite offset v =>
    rw [writeWord_plain (by simpa [Instr.wellFormed] using hw)]
    exact unlessReset_conserves (writePlain_conserves s _ _)
  case nonWordAccess access offset enables =>
    rw [if_neg (by simpa [Instr.wellFormed] using hw)]
    exact unlessReset_conserves (conserves_of_eq rfl rfl rfl)
  case fullReset => exact absurd rfl hfull
  case resetRelease =>
    show Conserves s s.leaveReset
    unfold State.leaveReset
    split <;> exact conserves_of_eq rfl rfl rfl
  case preqActive n =>
    split
    · exact conserves_of_eq rfl rfl rfl
    · exact requestRises_conserves s n
  case preqInactive n =>
    split
    · exact conserves_of_eq rfl rfl rfl
    · unfold State.requestFalls
      dsimp only
      split <;> exact conserves_of_eq rfl rfl rfl
  case pendFall n => exact unlessReset_conserves (endEdge_conserves s n)
  case tick =>
    refine unlessReset_conserves ?_
    unfold State.timeTick
    split <;> exact conserves_of_eq rfl rfl rfl
  case timerExpiry n => exact unlessReset_conserves (timerExpires_conserves s n)
  case beatAnswered d => exact absurd rfl (hbeat d)
  case beatError => exact unlessReset_conserves (failBeat_conserves s)
  case waitSpacePresentation => exact absurd rfl hagain

/-- Settles O42: each operation of the engine passes a command on whole, from the queue to a mover and from either to its
record; an acceptance brings one and a pop takes one. -/
theorem everyCommandReportedOnce : Obligations.EveryCommandReportedOnce := by
  intro i s t hw hflush hengine hfull hidle he
  have accepts (h : AcceptsOne s t) (hi : i = .post ∨ i = .waitSpacePresentation ∨ ∃ data, i = .beatAnswered data) :
      ∃ accepted popped : List Ticket,
        (tickets s ++ accepted).Perm (tickets t ++ popped) ∧ accepted.length ≤ 1 ∧ popped.length ≤ 1
        ∧ (popped ≠ [] → i = .completionPop)
        ∧ (accepted ≠ [] → i = .post ∨ i = .waitSpacePresentation ∨ ∃ data, i = .beatAnswered data) := by
    obtain ⟨a, ha, h⟩ := h
    exact ⟨a, [], (h hidle).1, ha, by simp, fun h => absurd rfl h, fun _ => hi⟩
  by_cases hpop : i = .completionPop
  · subst hpop
    obtain ⟨p, hp, hpopped⟩ : ∃ popped, popped.length ≤ 1 ∧ Accounts [] popped s t := by
      rw [next_inj he]
      exact unlessReset_keeps (P := fun u => ∃ popped, popped.length ≤ 1 ∧ Accounts [] popped s u)
        ⟨[], by simp, Conserves.refl s⟩ (popCompletion_accounts s)
    exact ⟨[], p, (hpopped hidle).1, by simp, hp, fun _ => rfl, fun h => absurd rfl h⟩
  by_cases hpost : i = .post
  · subst hpost
    refine accepts ?_ (.inl rfl)
    rw [next_inj he]
    exact unlessReset_acceptsOne (postStaged_acceptsOne s)
  by_cases hagain : i = .waitSpacePresentation
  · subst hagain
    refine accepts ?_ (.inr (.inl rfl))
    rw [next_inj he]
    exact unlessReset_acceptsOne (presentAgain_acceptsOne s)
  by_cases hbeat : ∃ data, i = .beatAnswered data
  · obtain ⟨data, rfl⟩ := hbeat
    refine accepts ?_ (.inr (.inr ⟨data, rfl⟩))
    rw [next_inj he]
    exact unlessReset_acceptsOne (answerBeat_acceptsOne s data)
  · have hbeat : ∀ data, i ≠ .beatAnswered data := fun data hi => hbeat ⟨data, hi⟩
    have h := (exec_conserves hw hflush hengine hfull hpop hpost hagain hbeat he hidle).1
    exact ⟨[], [], h, by simp, by simp, fun h => absurd rfl h, fun h => absurd rfl h⟩

end Sys2Proof.Machine
end

section
/-! Refusal at POST (O13), the valid offsets of an axis (O16), and the bytes behind the hazard check (O18). -/

namespace Sys2Proof.Machine

open Sys2Proof.Safety

/-! ### A refused command -/

/-- A command that a check of Table 2-5 refuses, with the reason of the first one that fails (R42). -/
theorem verdict_refuses {s : State} {c : Command} {r : Reason} (h : acceptanceRefusal s c = some r) :
    s.verdict c = .refused r := by
  have hr := verdict_refusal s c
  rw [h] at hr
  cases hv : s.verdict c with
  | accepted e => simp [hv, Verdict.refusal] at hr
  | refused r' =>
    rw [hv] at hr
    rw [Option.some.inj hr]

/-- Settles O13: the verdict of a refused command changes POST_RESULT alone. -/
theorem postRefusedInOrder : Obligations.PostRefusedInOrder := by
  intro s r hreset c hrefused
  show Host.Outcome.next (s.unlessReset s.postStaged) = _
  rw [unlessReset_high hreset]
  unfold State.postStaged
  dsimp only
  rw [show s.verdict (decodeCommand s.commandStaging.toList) = .refused r from verdict_refuses hrefused]

/-! ### The valid offsets of an axis -/

/-- On one axis: an offset is from L up exactly when it is not negative and no bounded side begins after it, and below U
exactly when it is below n and inside every bounded side's end (R33). -/
theorem axis_valid_iff (sides : List NamedSide) (origin : NamedSide → Int) (extent : NamedSide → Nat) (n : Nat) (i : Int) :
    (0 ≤ i ∧ i < n ∧ ∀ d ∈ sides, d.surface.shape ≠ some .port → 0 ≤ origin d + i ∧ origin d + i < extent d)
      ↔ axisLow (axisBounds sides origin extent) ≤ i
        ∧ i < axisLow (axisBounds sides origin extent) + axisCount n (axisBounds sides origin extent) := by
  obtain ⟨hzero, hlow, hleast⟩ := axisLow_lowerEnd sides origin extent
  obtain ⟨hhigh, hall⟩ := foldl_min_le (fun b : Bound => (b.extent : Int) - b.origin) (axisBounds sides origin extent) n
  change axisHigh n (axisBounds sides origin extent) ≤ n at hhigh
  have hlt : (i < axisLow (axisBounds sides origin extent) + axisCount n (axisBounds sides origin extent)
      ∧ axisLow (axisBounds sides origin extent) ≤ i) ↔
      i < axisHigh n (axisBounds sides origin extent) ∧ axisLow (axisBounds sides origin extent) ≤ i := by
    unfold axisCount
    omega
  rw [and_comm (b := i < _), hlt]
  constructor
  · rintro ⟨hi, hn, hvalid⟩
    refine ⟨?_, ?_⟩
    · refine le_foldl_min (v := i + 1) (fun b : Bound => (b.extent : Int) - b.origin) _ _ hn fun b hb => ?_
      obtain ⟨d, hd, hs, rfl⟩ := mem_axisBounds.mp hb
      have := (hvalid d hd hs).2
      dsimp only
      omega
    · rcases hleast with hl | ⟨d, hd, hs, hl⟩
      · omega
      · have := (hvalid d hd hs).1
        omega
  · rintro ⟨hi, hl⟩
    refine ⟨by omega, by omega, fun d hd hs => ?_⟩
    have hbegin := hlow d hd hs
    have hend : axisHigh n (axisBounds sides origin extent) ≤ extent d - origin d :=
      hall _ (mem_axisBounds.mpr ⟨d, hd, hs, rfl⟩)
    omega

/-- Settles O16, axis by axis. -/
theorem clippingKeepsValidOffsets : Obligations.ClippingKeepsValidOffsets := fun size sides i =>
  ⟨axis_valid_iff sides (fun d => d.origin.x) (fun d => d.surface.xExtent.toNat) size.x i,
    axis_valid_iff sides (fun d => d.origin.y) (fun d => d.surface.yExtent.toNat) size.y i,
    axis_valid_iff sides (fun d => d.origin.z) (fun d => d.surface.zExtent.toNat) size.z i⟩

/-! ### Footprints that meet -/

/-- Two well-ordered footprints meet exactly where they share a byte (R38). -/
theorem footprintsMeet_iff {a b : Option Range} (ha : ∀ r ∈ a, r.lo ≤ r.hi) (hb : ∀ r ∈ b, r.lo ≤ r.hi) :
    footprintsMeet a b = true ↔ ∃ x, InFootprint a x ∧ InFootprint b x := by
  cases a with
  | none => simp [footprintsMeet]
  | some r =>
    cases b with
    | none => simp [footprintsMeet]
    | some q =>
      have hr : r.lo ≤ r.hi := ha r rfl
      have hq : q.lo ≤ q.hi := hb q rfl
      simp only [footprintsMeet, Range.intersects, Bool.and_eq_true, decide_eq_true_eq, InFootprint, Option.mem_def,
        Option.some.injEq, exists_eq_left']
      constructor
      · rintro ⟨h1, h2⟩
        exact ⟨max r.lo q.lo, by omega⟩
      · rintro ⟨x, h1, h2⟩
        omega

/-- Settles O18: each pair of footprints with a written one meets where it shares a byte. -/
theorem conflictMeansSharedByte : Obligations.ConflictMeansSharedByte := by
  intro a b har haw hbr hbw
  simp only [Entry.conflicts, Bool.or_eq_true, footprintsMeet_iff har hbw, footprintsMeet_iff haw hbr,
    footprintsMeet_iff haw hbw, exists_or, or_assoc]

end Sys2Proof.Machine
end

section
/-! A record that the list reader presents (O50, O51): what its acceptance, the examination of a new head and the request for
the next record leave of the reader and of the other blocks. -/

namespace Sys2Proof.Machine

open Sys2Proof.Safety

/-! ### The reader through the work of the others -/

/-- An event that leaves the grant as it was drew no choice. -/
theorem eitherOrder_of_sameGrant {s t : State} (h : t.grant = s.grant) : s.eitherOrder t = t := by
  cases hg : s.grant with
  | none => exact eitherOrder_of_free s (h.trans hg)
  | some g => exact eitherOrder_of_busy (by simp [hg]) t

/-- The reader as it was, but for its request at the arbiter. -/
def RequestOnly (s t : State) : Prop :=
  ∃ b, t.reader = s.reader.requesting b

theorem RequestOnly.refl (s : State) : RequestOnly s s := ⟨s.reader.request, rfl⟩

theorem RequestOnly.trans {s t u : State} (h : RequestOnly s t) (k : RequestOnly t u) : RequestOnly s u := by
  obtain ⟨_, h⟩ := h
  obtain ⟨b, k⟩ := k
  exact ⟨b, by rw [k, h]; rfl⟩

theorem setWaiting_requestOnly (s : State) (r : Requester) (b : Option Burst) : RequestOnly s (s.setWaiting r b) := by
  cases r
  · exact .refl s
  · exact ⟨b, rfl⟩

theorem requestBurst_requestOnly (s : State) (r : Requester) (b : Burst) : RequestOnly s (s.requestBurst r b) := by
  unfold State.requestBurst
  split
  · exact .refl s
  · exact setWaiting_requestOnly s r _

theorem eitherOrder_requestOnly (s t : State) : RequestOnly t (s.eitherOrder t) := by
  unfold State.eitherOrder
  split
  · split
    · exact .refl t
    · rename_i g r _ _ _ _ b _
      dsimp only
      split
      · exact (setWaiting_requestOnly { t with draws := t.draws + 1 } r none).trans
          (setWaiting_requestOnly _ g.owner (some g.burst))
      · exact .refl t
  · exact .refl t

/-- A reader that is not in WAIT_SPACE has no presentation due after a removal (R51). -/
theorem removeHead_reader {s : State} (h : s.reader.state ≠ .waitSpace) : s.removeHead.reader = s.reader := by
  obtain ⟨_, hr⟩ := removeHead_only s
  have hs : (s.reader.state == .waitSpace) = false := by simpa using h
  rw [hr]
  simp only [hs, Bool.or_false]

theorem report_reader {s : State} (e : Entry) (o : Outcome) (h : s.reader.state ≠ .waitSpace) :
    (s.report e o).reader = s.reader := by
  obtain ⟨_, hr⟩ := appendRecord_only s (dispatcherRecord e o)
  have hreader : (s.appendRecord (dispatcherRecord e o)).reader = s.reader := by rw [hr]
  obtain ⟨_, _, _, hrefs⟩ := returnRefs_refsOnly (s.appendRecord (dispatcherRecord e o)).removeHead e
  unfold State.report
  rw [hrefs]
  exact (removeHead_reader (hreader ▸ h)).trans hreader

theorem issue_reader {s : State} (e : Entry) (m : MoverIndex) (h : s.reader.state ≠ .waitSpace) :
    (s.issue e m).reader = s.reader := by
  obtain ⟨_, _, _, _, hp⟩ := issue_portOnly s m e
  rw [hp]
  exact removeHead_reader h

theorem examineIf_reader {s : State} (b : Bool) (h : s.reader.state ≠ .waitSpace) : (s.examineIf b).reader = s.reader := by
  cases b
  · rfl
  · exact examineHead_keeps (fun u => u.reader = s.reader)
      (fun u e _ o hu _ _ _ _ => (report_reader e o (hu ▸ h)).trans hu)
      (fun u e _ m hu _ _ _ => (issue_reader e m (hu ▸ h)).trans hu) (fun _ _ _ hu _ _ _ => hu) _ s rfl

/-! ### A cause that is set stays set -/

section Causes

variable {s : State} {k : Cause}

theorem raiseIf_raised (b : Bool) (c : Cause) (h : s.causeSet k = true) : (s.raiseIf b c).causeSet k = true := by
  rw [raiseIf_causeSet, h, Bool.true_or]

theorem appendRecord_raised (r : Completion) (h : s.causeSet k = true) : (s.appendRecord r).causeSet k = true :=
  raiseIf_raised _ _ (raiseIf_raised _ _ h)

theorem removeHead_raised (h : s.causeSet k = true) : s.removeHead.causeSet k = true :=
  raiseIf_raised (s := { s with queue := s.queue.tail }) _ _ h

theorem report_raised (e : Entry) (o : Outcome) (h : s.causeSet k = true) : (s.report e o).causeSet k = true := by
  have hhead : (s.appendRecord (dispatcherRecord e o)).removeHead.causeSet k = true :=
    removeHead_raised (appendRecord_raised _ h)
  unfold State.report State.returnRefs
  rw [foldl_returnRef_causeSet, hhead, Bool.true_or]

theorem issue_raised (e : Entry) (m : MoverIndex) (h : s.causeSet k = true) : (s.issue e m).causeSet k = true := by
  obtain ⟨_, _, _, _, hp⟩ := issue_portOnly s m e
  rw [hp]
  exact removeHead_raised h

theorem examineIf_raised (b : Bool) (h : s.causeSet k = true) : (s.examineIf b).causeSet k = true := by
  cases b
  · exact h
  · exact examineHead_keeps (fun u => u.causeSet k = true) (fun _ e _ o hu _ _ _ _ => report_raised e o hu)
      (fun _ e _ m hu _ _ _ => issue_raised e m hu) (fun _ _ _ hu _ _ _ => hu) _ s h

end Causes

/-! ### The presentation of an accepted record -/

/-- An entry that is held or reported stays so where queue, transfers and records are the same. -/
theorem heldOrReported_congr {t u : State} {e : Entry} (h : HeldOrReported t e) (hq : u.queue = t.queue)
    (hm : ∀ m, (u.mover m).transfer = (t.mover m).transfer) (hc : u.completions = t.completions) : HeldOrReported u e := by
  unfold HeldOrReported
  rw [hq, hc]
  simpa only [hm] using h

theorem heldOrReported_arbiter {t u : State} {e : Entry} (h : HeldOrReported t e) (hb : BooksKept t u)
    (ha : ArbiterOnly t u) : HeldOrReported u e := by
  have hm := hb.transfer
  obtain ⟨_, _, _, _, _, rfl⟩ := ha
  exact heldOrReported_congr h rfl hm rfl

/-- The reader after the acceptance of the record that it had in hand (R140): one more record, and the list at its end or at
the next address. -/
def AfterRecord (r : ListReader) (link : Word) (r' : ListReader) : Prop :=
  r'.count = r.count + 1 ∧ r'.inHand = none ∧ r'.due = false
  ∧ (link.getLsbD 0 = true → r'.state = .idle ∧ r'.endReason = .ended ∧ r'.stopAddress = r.current)
  ∧ (link.getLsbD 0 = false → r'.state = .fetch ∧ r'.current = link &&& 0xFFFFFFE0)

theorem AfterRecord.requested {s t : State} {r : ListReader} {link : Word} (h : AfterRecord r link s.reader)
    (k : RequestOnly s t) : AfterRecord r link t.reader := by
  obtain ⟨_, k⟩ := k
  rw [k]
  exact h

/-- The state that the acceptance of a presented record leaves, before the examination of a new head. -/
def State.presentAccepted (s : State) (link : Word) (e : Entry) : State :=
  let t := { s.enqueue e with reader := { (s.enqueue e).reader with count := (s.enqueue e).reader.count + 1 } }
  if linkLast link then t.endList .ended none else t.enterFetch (linkNext link)

theorem present_accepted {s : State} {record : Vector Word 8} {e : Entry}
    (h : s.verdict (decodeCommand record.toList) = .accepted e) :
    s.present record =
      if linkLast record[7] then (s.presentAccepted record[7] e).examineIf s.queue.isEmpty
      else ((s.presentAccepted record[7] e).examineIf s.queue.isEmpty).requestFetch := by
  unfold State.present State.presentAccepted
  rw [h]
  dsimp only
  split <;> rfl

/-- A presentation that FULL refuses (R139). -/
theorem present_full {s : State} {record : Vector Word 8}
    (h : acceptanceRefusal s (decodeCommand record.toList) = some .full) :
    s.present record = { s with reader := s.reader.holding record } := by
  unfold State.present
  rw [verdict_refuses h]

/-- A presentation that another check refuses (R138). -/
theorem present_refused {s : State} {record : Vector Word 8} {r : Reason}
    (h : acceptanceRefusal s (decodeCommand record.toList) = some r) (hne : r ≠ .full) :
    s.present record = s.endList .rejected (some r) := by
  unfold State.present
  rw [verdict_refuses h]
  cases r
  case full => exact absurd rfl hne
  all_goals rfl

/-- A list that ends with no request waiting. -/
theorem over_quiet {r : ListReader} (h : r.request = none) (why : EndReason) (refusal : Option Reason) :
    r.over why refusal =
      { r with
        state := .idle, fetched := [], inHand := none, due := false
        endReason := why, refusal := refusal, stopAddress := r.current } := by
  unfold ListReader.over
  rw [h]

theorem enqueue_reader (s : State) (e : Entry) : (s.enqueue e).reader = s.reader := by
  obtain ⟨_, h⟩ := addRefs_only s e
  rw [State.enqueue, h]

theorem presentAccepted_reader (s : State) (link : Word) (e : Entry) :
    AfterRecord s.reader link (s.presentAccepted link e).reader := by
  have hreader := enqueue_reader s e
  unfold State.presentAccepted linkLast flag
  cases hl : link.getLsbD 0 with
  | true =>
    rw [if_pos rfl]
    exact ⟨by rw [← hreader]; rfl, rfl, rfl, fun _ => ⟨rfl, rfl, by rw [← hreader]; rfl⟩,
      fun ht => by rw [hl] at ht; cases ht⟩
  | false =>
    rw [if_neg (by simp)]
    refine ⟨by rw [← hreader]; rfl, rfl, rfl, fun ht => ?_, fun _ => ⟨rfl, rfl⟩⟩
    rw [hl] at ht
    cases ht

theorem presentAccepted_queue (s : State) (link : Word) (e : Entry) :
    (s.presentAccepted link e).queue = s.queue ++ [e] := by
  unfold State.presentAccepted
  dsimp only
  split <;> rfl

theorem presentAccepted_lines (s : State) (link : Word) (e : Entry) : (s.presentAccepted link e).lines = s.lines := by
  obtain ⟨_, h⟩ := addRefs_only s e
  unfold State.presentAccepted State.enqueue
  rw [h]
  dsimp only
  split <;> rfl

theorem presentAccepted_waits (s : State) (link : Word) (e : Entry) :
    (s.presentAccepted link e).reader.state ≠ .waitSpace := by
  unfold State.presentAccepted
  dsimp only
  split <;> nofun

/-- A list that ends raises LIST (R146). -/
theorem presentAccepted_raised (s : State) {link : Word} (e : Entry) (h : linkLast link = true) :
    (s.presentAccepted link e).causeSet .list = true := by
  unfold State.presentAccepted
  dsimp only
  rw [if_pos h]
  exact (raise_causeSet _ .list .list).trans (by simp)

/-- What holds of the state after the presentation of an accepted record, whatever the queue and the dispatcher. -/
structure Presented (s : State) (link : Word) (e : Entry) (t : State) : Prop where
  held : HeldOrReported t e
  reader : AfterRecord s.reader link t.reader
  raised : link.getLsbD 0 = true → t.causeSet .list = true
  settings : SettingsKept s t

/-- The requests of the event change none of it. -/
theorem Presented.requested {s t u : State} {link : Word} {e : Entry} (h : Presented s link e t) (hb : BooksKept t u)
    (ha : ArbiterOnly t u) (hr : RequestOnly t u) : Presented s link e u where
  held := heldOrReported_arbiter h.held hb ha
  reader := h.reader.requested hr
  raised hl := by
    have := h.raised hl
    obtain ⟨_, _, _, _, _, rfl⟩ := ha
    exact this
  settings := by
    have := h.settings
    obtain ⟨_, _, _, _, _, rfl⟩ := ha
    exact this

theorem Presented.eitherOrder {s t : State} {link : Word} {e : Entry} (h : Presented s link e t) (b : State) :
    Presented s link e (b.eitherOrder t) :=
  h.requested (eitherOrder_books b t) (eitherOrder_arbiterOnly b t) (eitherOrder_requestOnly b t)

theorem present_presented {s : State} {record : Vector Word 8} {e : Entry}
    (h : s.verdict (decodeCommand record.toList) = .accepted e) : Presented s record[7] e (s.present record) := by
  have hexamined : Presented s record[7] e ((s.presentAccepted record[7] e).examineIf s.queue.isEmpty) := {
    held := heldOrReported_examineIf (presentAccepted_queue s record[7] e)
    reader := by
      rw [examineIf_reader _ (presentAccepted_waits s record[7] e)]
      exact presentAccepted_reader s record[7] e
    raised := fun hl => examineIf_raised _ (presentAccepted_raised s e hl)
    settings := by
      refine (SettingsKept.of_lines (presentAccepted_lines s record[7] e)).trans ?_
      cases s.queue.isEmpty
      · exact .refl _
      · exact examine_settings _ }
  rw [present_accepted h]
  split
  · exact hexamined
  · exact hexamined.requested (requestBurst_books _ _ _) (requestBurst_arbiterOnly _ _ _) (requestBurst_requestOnly _ _ _)

/-- Behind other entries or in HALT the accepted record is not examined. -/
theorem present_behind {s : State} {record : Vector Word 8} {e : Entry}
    (h : s.verdict (decodeCommand record.toList) = .accepted e) (hw : s.queue ≠ [] ∨ s.dispatcher.halted = true) :
    ∃ table : Vector Surface 24, Referenced s { s with surfaces := table } (decodeCommand record.toList)
      ∧ s.present record =
        if record[7].getLsbD 0 = true then
          { s with
            queue := s.queue ++ [e], surfaces := table, causes := s.causes ||| Cause.list.mask
            reader := { s.reader with count := s.reader.count + 1 }.over .ended none }
        else
          State.requestFetch { s with
            queue := s.queue ++ [e], surfaces := table
            reader := { s.reader with count := s.reader.count + 1 }.fetching (record[7] &&& 0xFFFFFFE0) } := by
  obtain ⟨table, htable, href⟩ := enqueue_table (verdict_accepted h).2
  have hexamine : (s.presentAccepted record[7] e).examineIf s.queue.isEmpty = s.presentAccepted record[7] e := by
    cases hq : s.queue.isEmpty with
    | false => rfl
    | true =>
      refine examine_halted ?_
      have hd := hw.resolve_left (not_not.mpr (List.isEmpty_iff.mp hq))
      unfold State.presentAccepted
      rw [htable]
      dsimp only
      split <;> exact hd
  refine ⟨table, href, ?_⟩
  rw [present_accepted h, hexamine]
  unfold State.presentAccepted linkLast flag
  rw [htable]
  cases record[7].getLsbD 0 <;> rfl

/-- The request for a record at a free port is granted (R137, R178). -/
theorem requestFetch_free {s : State} (h : s.grant = none) :
    s.requestFetch =
      s.grantTo .reader {
        form := .incrementing, write := false, start := s.reader.current, length := 8
        beats := (List.range 8).map fun i =>
          { address := s.reader.current + BitVec.ofNat 32 (4 * i), enables := 15#4, bytes := [] } } := by
  have hburst : mkBurst .incrementing false (fetchBeats s.reader.current) =
      { form := .incrementing, write := false, start := s.reader.current, length := 8
        beats := (List.range 8).map fun i =>
          { address := s.reader.current + BitVec.ofNat 32 (4 * i), enables := 15#4, bytes := [] } } := by
    simp [mkBurst, fetchBeats, Config.listRecordBeats, List.range_succ_eq_map]
  unfold State.requestFetch State.requestBurst
  rw [h, hburst]

/-- With nobody waiting nobody is first. -/
theorem firstWaiting_none {s : State} (h : ∀ r ∈ s.rotation, s.waiting r = none) : s.firstWaiting = none := by
  unfold State.firstWaiting
  rw [List.find?_eq_none]
  intro r hr
  simp [h r hr]

/-- With nobody waiting the port becomes free (R177). -/
theorem releasePort_quiet {s : State} (h : ∀ r, s.waiting r = none) : s.releasePort = { s with grant := none } := by
  have hfirst : State.firstWaiting { s with grant := none } = none := by
    refine firstWaiting_none fun r _ => ?_
    cases r
    · exact h (.mover _)
    · exact h .reader
  unfold State.releasePort
  dsimp only
  rw [hfirst]

/-! ### The last beat of a fetch -/

theorem recordOf_toList {words : List Word} (h : words.length = 8) : (recordOf words).toList = words := by
  refine List.ext_getElem (by simp [h]) fun i h1 h2 => ?_
  simp [recordOf, List.getD_eq_getElem?_getD, h2]

theorem recordOf_link {words : List Word} (h : words.length = 7) (data : Word) : (recordOf (words ++ [data]))[7] = data := by
  simp [recordOf, ← h]

/-- The state in which the last beat of a fetch presents its record: all words there, the port free. -/
def State.fetched (s : State) (data : Word) : State :=
  { s with grant := none, reader := { s.reader with fetched := s.reader.fetched ++ [data] } }

/-- The last beat of a fetch presents the record of its words in the same event (R137). -/
theorem answerBeat_lastOfFetch {s : State} {g : Grant} {b : Beat} (data : Word) (hgrant : s.grant = some g)
    (hlive : g.live = true) (howner : g.owner = .reader) (hread : g.burst.write = false) (hbeats : g.burst.beats = [b])
    (hquiet : ∀ r, s.waiting r = none) :
    s.answerBeat data =
      (s.fetched data).eitherOrder ((s.fetched data).present (recordOf (s.reader.fetched ++ [data]))) := by
  have hrelease : State.releasePort { s with reader := { s.reader with fetched := s.reader.fetched ++ [data] } } =
      s.fetched data := by
    refine releasePort_quiet fun r => ?_
    cases r
    · exact hquiet (.mover _)
    · exact hquiet .reader
  unfold State.answerBeat
  rw [hgrant]
  dsimp only
  rw [hbeats]
  simp only [hlive, State.takeData, hread, howner, Bool.false_eq_true, if_false, if_true, List.isEmpty_nil,
    State.completeBurst, hrelease]
  rfl

/-- Settles O50: the verdict on the record is the one on its words, and the port is free for the next fetch. -/
theorem fetchedRecordIsPresented : Obligations.FetchedRecordIsPresented := by
  intro s data g b hreset hgrant hlive howner hread hbeats hlength hquiet _ words c next
  have hwords : words.length = 8 := by simp [words, hlength]
  have hrecord : (recordOf words).toList = words := recordOf_toList hwords
  have hlink : (recordOf words)[7] = data := recordOf_link hlength data
  have hexec : exec (.beatAnswered data) s =
      .next ((s.fetched data).eitherOrder ((s.fetched data).present (recordOf words))) := by
    show Host.Outcome.next (s.unlessReset (s.answerBeat data)) = _
    rw [unlessReset_high hreset, answerBeat_lastOfFetch data hgrant hlive howner hread hbeats hquiet]
  have hrequest : s.reader.request = none := hquiet .reader
  rw [hexec]
  refine ⟨fun hfull => ?full, fun r hr hne => ?refused, fun haccept => ?accepted, fun haccept hw => ?behind⟩
  case full =>
    have hfull : acceptanceRefusal (s.fetched data) (decodeCommand (recordOf words).toList) = some .full := by
      rw [hrecord]
      exact hfull
    refine ⟨recordOf words, hrecord, ?_⟩
    rw [present_full hfull, eitherOrder_of_free _ rfl]
    rfl
  case refused =>
    have hr : acceptanceRefusal (s.fetched data) (decodeCommand (recordOf words).toList) = some r := by
      rw [hrecord]
      exact hr
    rw [present_refused hr hne, eitherOrder_of_free _ rfl]
    exact congrArg (fun reader => Host.Outcome.next { s with
      grant := none, causes := s.causes ||| Cause.list.mask, reader := reader }) (over_quiet hrequest _ _)
  case accepted =>
    have haccept : acceptanceRefusal (s.fetched data) c = none := haccept
    obtain ⟨e, he⟩ := verdict_accepts haccept
    have hp := (present_presented (record := recordOf words) (by rw [hrecord]; exact he)).eitherOrder (s.fetched data)
    rw [hlink] at hp
    obtain ⟨hcount, hhand, hdue, hlast, hmore⟩ := hp.reader
    refine ⟨e, _, entryOf_accepted haccept he, rfl, hp.held, hcount, hhand, hdue,
      fun hl => ⟨(hlast hl).1, (hlast hl).2.1, (hlast hl).2.2, hp.raised hl⟩, hmore, ?_⟩
    have hengine := (present_engineOnly (s.fetched data) (recordOf words)).trans (eitherOrder_engineOnly (s.fetched data) _)
    exact hostSide_of_engine (s := s.fetched data) hengine hp.settings
  case behind =>
    have haccept : acceptanceRefusal (s.fetched data) c = none := haccept
    obtain ⟨e, he⟩ := verdict_accepts haccept
    have he' : (s.fetched data).verdict (decodeCommand (recordOf words).toList) = .accepted e := by rw [hrecord]; exact he
    obtain ⟨table, href, hpresent⟩ := present_behind he' hw
    rw [hrecord] at href
    refine ⟨e, table, entryOf_accepted haccept he, href, ?_⟩
    rw [hpresent, hlink]
    split
    · rw [eitherOrder_of_free _ rfl]
      exact congrArg (fun reader => Host.Outcome.next { s with
        queue := s.queue ++ [e], surfaces := table, grant := none, causes := s.causes ||| Cause.list.mask
        reader := reader }) (over_quiet (r := { s.reader with count := s.reader.count + 1 }) hrequest _ _)
    · rw [requestFetch_free rfl, eitherOrder_of_quiet]
      · rfl
      · refine firstWaiting_none fun r _ => ?_
        cases r
        · exact hquiet (.mover _)
        · exact hrequest

/-! ### A presentation after a removal -/

/-- At a free port nobody waits, whoever stands in the order (R178). -/
theorem nobody_waits {s : State} (h : PortSound s) (hg : s.grant = none) (r : Requester) : s.waiting r = none := by
  obtain ⟨horder, hfree, -⟩ := h
  refine hfree hg r (horder.mem_iff.mpr ?_)
  cases r with
  | reader => simp
  | mover m => fin_cases m <;> simp

/-- Settles O51: an accepted record goes the way of a fetched one, and draws no choice behind other entries. -/
theorem heldRecordPresentedAfterRemoval : Obligations.HeldRecordPresentedAfterRemoval := by
  intro s hreset
  have hexec : exec .waitSpacePresentation s = .next s.presentAgain := by
    show Host.Outcome.next (s.unlessReset s.presentAgain) = _
    rw [unlessReset_high hreset]
  rw [hexec]
  constructor
  · intro hnot
    unfold State.presentAgain
    rw [if_neg]
    rintro ⟨hstate, hdue, hrun⟩
    rcases hnot with h | h | h
    · exact h hstate
    · simp [hdue] at h
    · exact hrun h
  intro record hstate hdue hrun hhand c
  have hagain : s.presentAgain = s.eitherOrder (s.present record) := by
    unfold State.presentAgain
    rw [if_pos ⟨hstate, hdue, by simp [hrun]⟩, hhand]
  rw [hagain]
  refine ⟨fun hfull => ?full, fun r hr hne => ?refused, fun haccept => ?accepted⟩
  case full =>
    have hpresent := present_full hfull
    rw [eitherOrder_of_sameGrant (by rw [hpresent]), hpresent, ListReader.holding, ← hstate, ← hhand]
  case refused =>
    have hpresent := present_refused hr hne
    rw [eitherOrder_of_sameGrant (by rw [hpresent]; rfl), hpresent]
    rfl
  case accepted =>
    obtain ⟨e, he⟩ := verdict_accepts haccept
    have hp := (present_presented he).eitherOrder s
    obtain ⟨hcount, hhand', hdue', hlast, hmore⟩ := hp.reader
    refine ⟨e, _, entryOf_accepted haccept he, rfl, hp.held, hcount, hhand', hdue',
      fun hl => ⟨(hlast hl).1, (hlast hl).2.1, (hlast hl).2.2, hp.raised hl⟩, hmore, ?_, fun hq hport => ?_⟩
    · exact hostSide_of_engine ((present_engineOnly s record).trans (eitherOrder_engineOnly s _)) hp.settings
    obtain ⟨table, href, hpresent⟩ := present_behind he (.inl hq)
    cases hl : record[7].getLsbD 0 with
    | true =>
      rw [if_pos hl] at hpresent
      rw [eitherOrder_of_sameGrant (by rw [hpresent]), hpresent]
      exact ⟨rfl, href, rfl, rfl, rfl, rfl, fun _ => ⟨rfl, rfl⟩, nofun⟩
    | false =>
      rw [hpresent, if_neg (by rw [hl]; nofun)]
      by_cases hg : s.grant = none
      · rw [requestFetch_free, eitherOrder_of_quiet]
        · exact ⟨rfl, href, rfl, rfl, rfl, rfl, nofun, fun _ => rfl⟩
        · refine firstWaiting_none fun r _ => ?_
          cases r
          · exact nobody_waits hport hg (.mover _)
          · exact nobody_waits hport hg .reader
        · exact hg
      · obtain ⟨g, hgrant⟩ := Option.ne_none_iff_exists'.mp hg
        rw [eitherOrder_of_busy hg]
        unfold State.requestFetch State.requestBurst
        dsimp only
        rw [hgrant]
        exact ⟨rfl, href, rfl, rfl, rfl, rfl, nofun, fun _ => rfl⟩

end Sys2Proof.Machine
end

section
/-! The units of a transfer (spec/04, sections 4.3 and 4.4): how many elements each has, and which places of the rectangle's
order they take (O27). -/

namespace Sys2Proof.Machine

open Sys2Proof.Safety

/-! ### Segments -/

theorem lt_ceilDiv_iff {a b k : Nat} (hb : 0 < b) : k < ceilDiv a b ↔ k * b < a := by
  unfold ceilDiv
  rw [← Nat.succ_le_iff, Nat.le_div_iff_mul_le hb, Nat.succ_mul]
  omega

theorem ceilDiv_pos {a b : Nat} (hb : 0 < b) (ha : 0 < a) : 0 < ceilDiv a b :=
  (lt_ceilDiv_iff hb).mpr (by omega)

section Segments

variable (e : Entry) {full : Nat} (hfull : 0 < full)

/-- The place of segment `k`'s first element in ascending traversal (R75). -/
def segmentStart (full k : Nat) : Nat :=
  k / ceilDiv e.size.x full * e.size.x + k % ceilDiv e.size.x full * full

theorem segmentRun_length (k : Nat) :
    (segmentRun e full k).length = min full (e.size.x - k % ceilDiv e.size.x full * full) := rfl

include hfull

/-- A segment is not empty and ends in its row. -/
theorem segment_fits (hx : 0 < e.size.x) (k : Nat) :
    1 ≤ (segmentRun e full k).length
      ∧ k % ceilDiv e.size.x full * full + (segmentRun e full k).length ≤ e.size.x := by
  have hcut := (lt_ceilDiv_iff hfull).mp (Nat.mod_lt k (ceilDiv_pos hfull hx))
  rw [segmentRun_length]
  omega

/-- The next segment starts where this one ends: in the same row, or at the start of the next. -/
theorem segmentStart_succ (hx : 0 < e.size.x) (k : Nat) :
    segmentStart e full (k + 1) = segmentStart e full k + (segmentRun e full k).length := by
  have hpos := ceilDiv_pos hfull hx
  have hdecomp := Nat.div_add_mod k (ceilDiv e.size.x full)
  have hmod := Nat.mod_lt k hpos
  rw [segmentRun_length]
  unfold segmentStart
  by_cases hrow : k % ceilDiv e.size.x full + 1 < ceilDiv e.size.x full
  · have hnext : k + 1 = ceilDiv e.size.x full * (k / ceilDiv e.size.x full) + (k % ceilDiv e.size.x full + 1) := by omega
    have hmore := (lt_ceilDiv_iff hfull).mp hrow
    have hdiv : (k + 1) / ceilDiv e.size.x full = k / ceilDiv e.size.x full := by
      conv_lhs => rw [hnext]
      rw [Nat.mul_add_div hpos, Nat.div_eq_of_lt hrow, Nat.add_zero]
    have hrem : (k + 1) % ceilDiv e.size.x full = k % ceilDiv e.size.x full + 1 := by
      conv_lhs => rw [hnext]
      rw [Nat.mul_add_mod, Nat.mod_eq_of_lt hrow]
    rw [hdiv, hrem]
    rw [Nat.add_one_mul] at hmore ⊢
    omega
  · have hlast : k % ceilDiv e.size.x full + 1 = ceilDiv e.size.x full := by omega
    have hnext : k + 1 = ceilDiv e.size.x full * (k / ceilDiv e.size.x full + 1) := by
      rw [Nat.mul_add_one]
      omega
    have hcut := (lt_ceilDiv_iff hfull).mp hmod
    have hend : ¬ ceilDiv e.size.x full * full < e.size.x := fun h => absurd ((lt_ceilDiv_iff hfull).mpr h) (lt_irrefl _)
    rw [hnext, Nat.mul_div_cancel_left _ hpos, Nat.mul_mod_right, Nat.add_one_mul]
    rw [← hlast, Nat.add_one_mul] at hend
    omega

/-- Where the elements of a segment stand: in ascending traversal from its start on, in descending traversal as far from the
end (R75, R76). -/
theorem segment_rank {k : Nat} {p : Triple} (hk : k < ceilDiv e.size.x full * (e.size.y * e.size.z))
    (hp : InRun (segmentRun e full k) p) :
    InBox e.size p
      ∧ (e.descending = false →
          segmentStart e full k ≤ rank e.size p ∧ rank e.size p < segmentStart e full (k + 1))
      ∧ (e.descending = true →
          e.effective - segmentStart e full (k + 1) ≤ rank e.size p
            ∧ rank e.size p < e.effective - segmentStart e full k) := by
  have hrows : 0 < e.size.y * e.size.z := Nat.pos_of_mul_pos_left (Nat.zero_lt_of_lt hk)
  have hper : 0 < ceilDiv e.size.x full := Nat.pos_of_mul_pos_right (Nat.zero_lt_of_lt hk)
  have hx : 0 < e.size.x := by
    have := (lt_ceilDiv_iff hfull).mp hper
    omega
  have hy : 0 < e.size.y := Nat.pos_of_mul_pos_right hrows
  have hrow : k / ceilDiv e.size.x full < e.size.y * e.size.z := Nat.div_lt_of_lt_mul hk
  obtain ⟨hlength, hfits⟩ := segment_fits e hfull hx k
  obtain ⟨hpy, hpz, hlow, hhigh⟩ := hp
  have hbox (row : Nat) (hr : row < e.size.y * e.size.z) (hry : p.y = row % e.size.y) (hrz : p.z = row / e.size.y) :
      p.y < e.size.y ∧ p.z < e.size.z ∧ p.z * e.size.y + p.y = row :=
    ⟨hry ▸ Nat.mod_lt _ hy, hrz ▸ Nat.div_lt_of_lt_mul hr, by rw [hry, hrz, Nat.mul_comm]; exact Nat.div_add_mod _ _⟩
  rw [segmentStart_succ e hfull hx]
  cases hd : e.descending with
  | false =>
    simp only [segmentRun, hd, Bool.false_eq_true, if_false] at hpy hpz hlow hhigh hlength hfits
    obtain ⟨hby, hbz, hrank⟩ := hbox _ hrow hpy hpz
    refine ⟨⟨by omega, hby, hbz⟩, fun _ => ?_, nofun⟩
    unfold rank segmentStart
    rw [hrank, segmentRun_length]
    omega
  | true =>
    simp only [segmentRun, hd, if_true] at hpy hpz hlow hhigh hlength hfits
    obtain ⟨hby, hbz, hrank⟩ := hbox (e.size.y * e.size.z - 1 - k / ceilDiv e.size.x full)
      ((Nat.sub_le _ _).trans_lt (Nat.sub_lt hrows Nat.one_pos)) hpy hpz
    refine ⟨⟨by omega, hby, hbz⟩, nofun, fun _ => ?_⟩
    have heff : e.effective = (e.size.y * e.size.z - 1 - k / ceilDiv e.size.x full) * e.size.x + e.size.x
        + k / ceilDiv e.size.x full * e.size.x := by
      rw [← Nat.add_one_mul, ← Nat.add_mul, Entry.effective, Nat.mul_assoc, Nat.mul_comm]
      congr 1
      omega
    unfold rank segmentStart
    rw [hrank, heff, segmentRun_length]
    omega

end Segments

/-! ### The runs of a port burst -/

section Bursts

variable (e : Entry)

/-- Element `i` of the rectangle stands at place `i`. -/
theorem rank_of_index (i : Nat) :
    rank e.size { x := i % e.size.x, y := i / e.size.x % e.size.y, z := i / (e.size.x * e.size.y) } = i := by
  unfold rank
  rw [← Nat.div_div_eq_div_mul, Nat.mul_comm _ e.size.y, Nat.div_add_mod, Nat.mul_comm, Nat.div_add_mod]

/-- The runs of `n` elements from element `i`: they add up to `n`, and each lies in its row, its elements at places from `i`
to `i + n` (R82). -/
theorem burstRuns_span (hx : 0 < e.size.x) (hy : 0 < e.size.y) :
    ∀ (fuel i n : Nat), n ≤ fuel → i + n ≤ e.effective →
      runElements (burstRuns e fuel i n) = n
      ∧ ∀ r ∈ burstRuns e fuel i n, 1 ≤ r.length ∧ InBox e.size r.offset ∧ r.offset.x + r.length ≤ e.size.x
          ∧ ∀ p, InRun r p → i ≤ rank e.size p ∧ rank e.size p < i + n
  | 0, i, n, hn, _ => by
    obtain rfl : n = 0 := by omega
    exact ⟨rfl, by simp [burstRuns]⟩
  | fuel + 1, i, n, hn, hi => by
    unfold burstRuns
    by_cases hzero : n = 0
    · simp [hzero, runElements]
    have hcolumn := Nat.mod_lt i hx
    rw [if_neg hzero]
    dsimp only
    obtain ⟨hsum, hall⟩ := burstRuns_span hx hy fuel (i + min n (e.size.x - i % e.size.x))
      (n - min n (e.size.x - i % e.size.x)) (by omega) (by omega)
    refine ⟨?_, fun r hr => ?_⟩
    · unfold runElements at hsum ⊢
      simp only [List.map_cons, List.sum_cons, hsum]
      omega
    · rcases List.mem_cons.mp hr with rfl | hr
      · have hz : i / (e.size.x * e.size.y) < e.size.z := by
          refine Nat.div_lt_of_lt_mul (Nat.lt_of_lt_of_le (by omega) (hi.trans (le_of_eq ?_)))
          rfl
        refine ⟨by dsimp only; omega, ⟨hcolumn, Nat.mod_lt _ hy, hz⟩, by dsimp only; omega, ?_⟩
        rintro p ⟨hpy, hpz, hlow, hhigh⟩
        have hplace := rank_of_index e i
        unfold rank at hplace ⊢
        dsimp only at hpy hpz hlow hhigh hplace
        rw [hpy, hpz]
        omega
      · obtain ⟨hlength, hbox, hrow, hplaces⟩ := hall r hr
        refine ⟨hlength, hbox, hrow, fun p hp => ?_⟩
        have := hplaces p hp
        omega

end Bursts

/-! ### The units together -/

section Units

variable (s : State) (e : Entry)

theorem elementsBefore_succ (k : Nat) : elementsBefore s e (k + 1) = elementsBefore s e k + s.unitElements e k := by
  simp [elementsBefore, List.range_succ]

theorem elementsBefore_mono {k l : Nat} (h : k ≤ l) : elementsBefore s e k ≤ elementsBefore s e l := by
  induction l, h using Nat.le_induction with
  | base => exact le_rfl
  | succ l _ ih =>
    rw [elementsBefore_succ]
    omega

/-- What the unit arithmetic needs of the surfaces: a legal element size, and a burst length of at least 1 (R10). -/
structure UnitsFit : Prop where
  element : ElementSizeLegal (s.elementBytes e)
  burst : ∀ f ∈ s.portSurface e, 1 ≤ f.burst.toNat

variable {s e}

theorem segmentLength_pos {n : Nat} (h : ElementSizeLegal n) : 0 < segmentLength n := by
  rcases h with rfl | rfl | rfl <;> decide

theorem unitCount_memory (h : s.portSurface e = none) :
    s.unitCount e = ceilDiv e.size.x (segmentLength (s.elementBytes e)) * (e.size.y * e.size.z) := by
  unfold State.unitCount
  rw [h]

theorem unitRuns_memory (h : s.portSurface e = none) (k : Nat) :
    s.unitRuns e k = [segmentRun e (segmentLength (s.elementBytes e)) k] := by
  unfold State.unitRuns
  rw [h]

theorem unitElements_memory (h : s.portSurface e = none) (k : Nat) :
    s.unitElements e k = (segmentRun e (segmentLength (s.elementBytes e)) k).length := by
  unfold State.unitElements
  rw [unitRuns_memory h]
  simp [runElements]

theorem unitCount_port {f : Surface} (h : s.portSurface e = some f) : s.unitCount e = ceilDiv e.effective f.burst.toNat := by
  unfold State.unitCount
  rw [h]

theorem unitRuns_port {f : Surface} (h : s.portSurface e = some f) (k : Nat) :
    s.unitRuns e k =
      burstRuns e f.burst.toNat (k * f.burst.toNat) (min f.burst.toNat (e.effective - k * f.burst.toNat)) := by
  unfold State.unitRuns
  rw [h]

/-- A transfer with a unit has elements. -/
theorem size_pos_of_unit (h : UnitsFit s e) {k : Nat} (hk : k < s.unitCount e) :
    0 < e.size.x ∧ 0 < e.size.y ∧ 0 < e.size.z := by
  have hpos : 0 < e.effective := by
    cases hp : s.portSurface e with
    | none =>
      rw [unitCount_memory hp] at hk
      have hrows : 0 < e.size.y * e.size.z := Nat.pos_of_mul_pos_left (Nat.zero_lt_of_lt hk)
      have hx := (lt_ceilDiv_iff (segmentLength_pos h.element)).mp (Nat.pos_of_mul_pos_right (Nat.zero_lt_of_lt hk))
      rw [Entry.effective, Nat.mul_assoc]
      exact Nat.mul_pos (by omega) hrows
    | some f =>
      rw [unitCount_port hp] at hk
      have := (lt_ceilDiv_iff (h.burst f hp)).mp hk
      omega
  have hxy : 0 < e.size.x * e.size.y := Nat.pos_of_mul_pos_right hpos
  exact ⟨Nat.pos_of_mul_pos_right hxy, Nat.pos_of_mul_pos_left hxy, Nat.pos_of_mul_pos_left hpos⟩

/-- A transfer with elements has units. -/
theorem unitCount_pos (h : UnitsFit s e) (hpos : e.effective ≠ 0) : 0 < s.unitCount e := by
  cases hp : s.portSurface e with
  | none =>
    rw [Entry.effective, Nat.mul_assoc] at hpos
    rw [unitCount_memory hp]
    exact Nat.mul_pos (ceilDiv_pos (segmentLength_pos h.element) (Nat.pos_of_ne_zero (left_ne_zero_of_mul hpos)))
      (Nat.pos_of_ne_zero (right_ne_zero_of_mul hpos))
  | some f =>
    rw [unitCount_port hp]
    exact ceilDiv_pos (h.burst f hp) (Nat.pos_of_ne_zero hpos)

/-- The units before a segment are the elements before it. -/
theorem elementsBefore_memory (h : UnitsFit s e) (hp : s.portSurface e = none) (hx : 0 < e.size.x) (k : Nat) :
    elementsBefore s e k = segmentStart e (segmentLength (s.elementBytes e)) k := by
  induction k with
  | zero => simp [elementsBefore, segmentStart]
  | succ k ih =>
    rw [elementsBefore_succ, ih, unitElements_memory hp, segmentStart_succ e (segmentLength_pos h.element) hx]

/-- A port burst has B elements and the last the rest (R82). -/
theorem unitElements_port (h : UnitsFit s e) {f : Surface} (hp : s.portSurface e = some f) {k : Nat}
    (hk : k < s.unitCount e) : s.unitElements e k = min f.burst.toNat (e.effective - k * f.burst.toNat) := by
  obtain ⟨hx, hy, -⟩ := size_pos_of_unit h hk
  rw [unitCount_port hp] at hk
  have hlt := (lt_ceilDiv_iff (h.burst f hp)).mp hk
  unfold State.unitElements
  rw [unitRuns_port hp]
  exact (burstRuns_span e hx hy _ _ _ (by omega) (by omega)).1

/-- The units before a port burst are full. -/
theorem elementsBefore_port (h : UnitsFit s e) {f : Surface} (hp : s.portSurface e = some f) {k : Nat}
    (hk : k < s.unitCount e) : elementsBefore s e k = k * f.burst.toNat := by
  induction k with
  | zero => simp [elementsBefore]
  | succ k ih =>
    have hlt := hk
    rw [unitCount_port hp, lt_ceilDiv_iff (h.burst f hp), Nat.add_one_mul] at hlt
    rw [elementsBefore_succ, ih (by omega), unitElements_port h hp (by omega), Nat.add_one_mul]
    omega

/-- Every unit has an element. -/
theorem unitElements_pos (h : UnitsFit s e) {k : Nat} (hk : k < s.unitCount e) : 1 ≤ s.unitElements e k := by
  cases hp : s.portSurface e with
  | none =>
    rw [unitElements_memory hp]
    exact (segment_fits e (segmentLength_pos h.element) (size_pos_of_unit h hk).1 k).1
  | some f =>
    rw [unitElements_port h hp hk]
    rw [unitCount_port hp] at hk
    have hlt := (lt_ceilDiv_iff (h.burst f hp)).mp hk
    have := h.burst f hp
    omega

/-- The units' elements add up to the effective count. -/
theorem elementsBefore_unitCount (h : UnitsFit s e) (hpos : e.effective ≠ 0) :
    elementsBefore s e (s.unitCount e) = e.effective := by
  have hcount := unitCount_pos h hpos
  cases hp : s.portSurface e with
  | none =>
    obtain ⟨hx, -, -⟩ := size_pos_of_unit h hcount
    rw [elementsBefore_memory h hp hx, unitCount_memory hp, segmentStart,
      Nat.mul_div_cancel_left _ (ceilDiv_pos (segmentLength_pos h.element) hx), Nat.mul_mod_right, Entry.effective]
    ring
  | some f =>
    obtain ⟨k, hk⟩ : ∃ k, s.unitCount e = k + 1 := ⟨s.unitCount e - 1, by omega⟩
    have hlt : k < s.unitCount e := by omega
    have hend : ¬ s.unitCount e < ceilDiv e.effective f.burst.toNat := by rw [unitCount_port hp]; omega
    rw [lt_ceilDiv_iff (h.burst f hp), hk, Nat.add_one_mul] at hend
    have hcut := hlt
    rw [unitCount_port hp, lt_ceilDiv_iff (h.burst f hp)] at hcut
    rw [hk, elementsBefore_succ, elementsBefore_port h hp hlt, unitElements_port h hp hlt]
    omega

/-- The runs of a unit lie in the rectangle, each in its row. -/
theorem unitRuns_fit (h : UnitsFit s e) {k : Nat} (hk : k < s.unitCount e) :
    ∀ r ∈ s.unitRuns e k, 1 ≤ r.length ∧ InBox e.size r.offset ∧ r.offset.x + r.length ≤ e.size.x := by
  obtain ⟨hx, hy, -⟩ := size_pos_of_unit h hk
  intro r hr
  cases hp : s.portSurface e with
  | none =>
    rw [unitRuns_memory hp, List.mem_singleton] at hr
    rw [unitCount_memory hp] at hk
    obtain ⟨hlength, hfits⟩ := segment_fits e (segmentLength_pos h.element) hx k
    have hfirst : InRun r r.offset := ⟨rfl, rfl, le_rfl, Nat.lt_add_of_pos_right (hr ▸ hlength)⟩
    subst hr
    refine ⟨hlength, (segment_rank e (segmentLength_pos h.element) hk hfirst).1, ?_⟩
    simp only [segmentRun] at hlength hfits ⊢
    split <;> omega
  | some f =>
    rw [unitRuns_port hp] at hr
    rw [unitCount_port hp] at hk
    have hlt := (lt_ceilDiv_iff (h.burst f hp)).mp hk
    obtain ⟨hlength, hbox, hrow, -⟩ := (burstRuns_span e hx hy _ _ _ (by omega) (by omega)).2 r hr
    exact ⟨hlength, hbox, hrow⟩

/-- An element of a unit: it lies in the rectangle, and stands between the elements before its unit and those up to its end;
in descending traversal, which a port never has, as far from the end (R75, R76, R82). -/
theorem unit_rank (h : UnitsFit s e) {k : Nat} {p : Triple} (hk : k < s.unitCount e) (hp : ∃ r ∈ s.unitRuns e k, InRun r p) :
    InBox e.size p
      ∧ (e.descending = false ∨ s.portSurface e ≠ none →
          elementsBefore s e k ≤ rank e.size p ∧ rank e.size p < elementsBefore s e (k + 1))
      ∧ (e.descending = true → s.portSurface e = none →
          e.effective - elementsBefore s e (k + 1) ≤ rank e.size p
            ∧ rank e.size p < e.effective - elementsBefore s e k) := by
  obtain ⟨hx, hy, -⟩ := size_pos_of_unit h hk
  obtain ⟨r, hr, hin⟩ := hp
  cases hport : s.portSurface e with
  | none =>
    rw [unitRuns_memory hport, List.mem_singleton] at hr
    rw [unitCount_memory hport] at hk
    subst hr
    obtain ⟨hbox, hasc, hdesc⟩ := segment_rank e (segmentLength_pos h.element) hk hin
    rw [elementsBefore_memory h hport hx, elementsBefore_memory h hport hx]
    exact ⟨hbox, fun hd => hasc (by simpa using hd), fun hd _ => hdesc hd⟩
  | some f =>
    obtain ⟨hlength, hbox, hrow⟩ := unitRuns_fit h hk r hr
    rw [elementsBefore_succ, elementsBefore_port h hport hk, unitElements_port h hport hk]
    rw [unitRuns_port hport] at hr
    rw [unitCount_port hport] at hk
    have hlt := (lt_ceilDiv_iff (h.burst f hport)).mp hk
    obtain ⟨-, -, -, hplaces⟩ := (burstRuns_span e hx hy _ _ _ (by omega) (by omega)).2 r hr
    obtain ⟨hpy, hpz, -, hhigh⟩ := id hin
    exact ⟨⟨by omega, hpy ▸ hbox.2.1, hpz ▸ hbox.2.2⟩, fun _ => hplaces p hin, nofun⟩

end Units

/-- Settles O27: each unit takes the places that follow those of the units before it. -/
theorem unitsInTraversalOrder : Obligations.UnitsInTraversalOrder := by
  intro s e k l p q helement hburst hkl hl hp hq
  have h : UnitsFit s e := ⟨helement, hburst⟩
  obtain ⟨-, hpasc, hpdesc⟩ := unit_rank h (hkl.trans hl) hp
  obtain ⟨-, hqasc, hqdesc⟩ := unit_rank h hl hq
  have hmono := elementsBefore_mono s e (show k + 1 ≤ l from hkl)
  refine ⟨fun hasc => ?_, fun hdesc hport => ?_⟩
  · have h1 := hpasc hasc
    have h2 := hqasc hasc
    omega
  · have h1 := hpdesc hdesc hport
    have h2 := hqdesc hdesc hport
    omega

end Sys2Proof.Machine
end

section
/-! A MOVE of one surface onto itself (O28): the traversal direction of R40 follows the translation vector, so that the element
written and a later one read are apart in the surface. -/

namespace Sys2Proof.Machine

open Sys2Proof.Safety

/-- The order of positions: by z, then y, then x (R75). -/
abbrev Before (p q : Triple) : Prop :=
  p.z < q.z ∨ p.z = q.z ∧ (p.y < q.y ∨ p.y = q.y ∧ p.x < q.x)

/-- An earlier element has a smaller place. -/
theorem rank_lt_of_before {size p q : Triple} (hp : InBox size p) (h : Before p q) : rank size p < rank size q := by
  obtain ⟨hx, hy, -⟩ := hp
  have hrow : p.z * size.y + p.y < q.z * size.y + q.y ∨ p.z * size.y + p.y = q.z * size.y + q.y ∧ p.x < q.x := by
    rcases h with hz | ⟨hz, hlt | ⟨heq, hlt⟩⟩
    · have := Nat.mul_le_mul_right size.y (Nat.succ_le_of_lt hz)
      rw [Nat.succ_mul] at this
      omega
    · rw [hz]
      omega
    · rw [hz, heq]
      omega
  unfold rank
  rcases hrow with hlt | ⟨heq, hlt⟩
  · have := Nat.mul_le_mul_right size.x (Nat.succ_le_of_lt hlt)
    rw [Nat.succ_mul] at this
    omega
  · rw [heq]
    omega

/-- Places of the rectangle follow the order of positions. -/
theorem before_of_rank_lt {size p q : Triple} (hq : InBox size q) (h : rank size p < rank size q) : Before p q := by
  by_contra hn
  have hcases : Before q p ∨ (q.x = p.x ∧ q.y = p.y ∧ q.z = p.z) := by
    unfold Before at hn ⊢
    omega
  rcases hcases with hb | ⟨hx, hy, hz⟩
  · exact absurd (rank_lt_of_before hq hb) (by omega)
  · unfold rank at h
    rw [hx, hy, hz] at h
    exact lt_irrefl _ h

/-- The effective origins of two bounded sides lie as far apart as their origins (R34). -/
theorem effectiveOrigin_vector {sides : List NamedSide} {a b : NamedSide} (ha : a ∈ sides) (hb : b ∈ sides)
    (hsa : a.surface.shape ≠ some .port) (hsb : b.surface.shape ≠ some .port) :
    ((effectiveOrigin sides b).x : Int) - (effectiveOrigin sides a).x = b.origin.x - a.origin.x
      ∧ ((effectiveOrigin sides b).y : Int) - (effectiveOrigin sides a).y = b.origin.y - a.origin.y
      ∧ ((effectiveOrigin sides b).z : Int) - (effectiveOrigin sides a).z = b.origin.z - a.origin.z := by
  have hax := (axis_within (fun d => d.origin.x) (fun d => d.surface.xExtent.toNat) 0 ha hsa).1
  have hay := (axis_within (fun d => d.origin.y) (fun d => d.surface.yExtent.toNat) 0 ha hsa).1
  have haz := (axis_within (fun d => d.origin.z) (fun d => d.surface.zExtent.toNat) 0 ha hsa).1
  have hbx := (axis_within (fun d => d.origin.x) (fun d => d.surface.xExtent.toNat) 0 hb hsb).1
  have hby := (axis_within (fun d => d.origin.y) (fun d => d.surface.yExtent.toNat) 0 hb hsb).1
  have hbz := (axis_within (fun d => d.origin.z) (fun d => d.surface.zExtent.toNat) 0 hb hsb).1
  rw [effectiveOrigin_memory hsa, effectiveOrigin_memory hsb]
  refine ⟨?_, ?_, ?_⟩
  · exact (congrArg₂ _ hbx hax).trans (by ring)
  · exact (congrArg₂ _ hby hay).trans (by ring)
  · exact (congrArg₂ _ hbz haz).trans (by ring)

/-- Elements of two rectangles of one surface whose footprints do not meet share no byte (R38). -/
theorem apart_of_footprints {f : Surface} (L : MemoryLayout f) {size o o' p q : Triple} (hp : InBox size p)
    (hq : InBox size q) (h : footprintsMeet (footprint f o size) (footprint f o' size) = false) :
    f.address (o.add p) + f.elementSize.toNat ≤ f.address (o'.add q)
      ∨ f.address (o'.add q) + f.elementSize.toNat ≤ f.address (o.add p) := by
  have hvolume : size.volume ≠ 0 :=
    Nat.mul_ne_zero (Nat.mul_ne_zero (Nat.ne_zero_of_lt hp.1) (Nat.ne_zero_of_lt hp.2.1)) (Nat.ne_zero_of_lt hp.2.2)
  obtain ⟨hpx, hpy, hpz⟩ := o.add_le_lastOf hp
  obtain ⟨hqx, hqy, hqz⟩ := o'.add_le_lastOf hq
  have h1 := L.address_mono hpx hpy hpz
  have h2 := L.address_mono hqx hqy hqz
  have h3 := L.address_mono (p := o) (q := o.add p) (Nat.le_add_right _ _) (Nat.le_add_right _ _) (Nat.le_add_right _ _)
  have h4 := L.address_mono (p := o') (q := o'.add q) (Nat.le_add_right _ _) (Nat.le_add_right _ _) (Nat.le_add_right _ _)
  have hpos := L.size_pos
  rw [footprint_memory L.memory _ hvolume, footprint_memory L.memory _ hvolume] at h
  simp only [footprintsMeet, Range.intersects, Bool.and_eq_false_iff, decide_eq_false_iff_not] at h
  omega

/-- A transfer of a MOVE between memory sides, as its units see it. -/
theorem moveEntry_units {s : State} {a b : NamedSide} (c : Command) (hindex : a.index = b.index)
    (hsurface : s.surface a.index = a.surface) (hmemory : a.surface.isPort = false) :
    s.portSurface (moveEntry c a b) = none ∧ s.elementBytes (moveEntry c a b) = a.surface.elementSize.toNat := by
  constructor
  · simp [State.portSurface, moveEntry, NamedSide.accepted, ← hindex, hsurface, hmemory]
  · simp [State.elementBytes, moveEntry, NamedSide.accepted, ← hindex, hsurface]

/-- Settles O28: an ascending traversal of overlapping footprints moves back in the surface and a descending one forward, and
what is written lies on the side of the elements already read. -/
theorem selfMoveReadsBeforeWrites : Obligations.SelfMoveReadsBeforeWrites := by
  intro s c a b k l p q hindex hsame hsurface hlegal hshape e hkl hl hq hp read written
  have L := legal_layout hlegal hshape
  have hshapeb : b.surface.shape ≠ some .port := hsame ▸ hshape
  obtain ⟨hport, hbytes⟩ := moveEntry_units c hindex hsurface L.memory
  have helement : ElementSizeLegal (s.elementBytes e) := hbytes ▸ hlegal.1
  have hburst : ∀ f ∈ s.portSurface e, 1 ≤ f.burst.toNat := by simp [e, hport]
  have hfit : UnitsFit s e := ⟨helement, hburst⟩
  have hboxq : InBox e.size q := (unit_rank hfit (hkl.trans hl) hq).1
  have hboxp : InBox e.size p := (unit_rank hfit hl hp).1
  obtain ⟨hasc, hdesc⟩ := unitsInTraversalOrder s e k l q p helement hburst hkl hl hq hp
  obtain ⟨hvx, hvy, hvz⟩ := effectiveOrigin_vector (sides := [a, b]) (a := a) (b := b) (by simp) (by simp) hshape hshapeb
  obtain ⟨hpx, hpy, hpz⟩ := id hboxp
  obtain ⟨hqx, hqy, hqz⟩ := id hboxq
  obtain ⟨hax, hay, haz⟩ := effective_within (sides := [a, b]) (d := a) (size := c.size) (by simp) hshape
    (Nat.ne_zero_of_lt hpx) (Nat.ne_zero_of_lt hpy) (Nat.ne_zero_of_lt hpz)
  obtain ⟨hbx, hby, hbz⟩ := effective_within (sides := [a, b]) (d := b) (size := c.size) (by simp) hshapeb
    (Nat.ne_zero_of_lt hpx) (Nat.ne_zero_of_lt hpy) (Nat.ne_zero_of_lt hpz)
  rw [← hsame] at hbx hby hbz
  change p.x < (effectiveSize c.size [a, b]).x at hpx
  change p.y < (effectiveSize c.size [a, b]).y at hpy
  change p.z < (effectiveSize c.size [a, b]).z at hpz
  change q.x < (effectiveSize c.size [a, b]).x at hqx
  change q.y < (effectiveSize c.size [a, b]).y at hqy
  change q.z < (effectiveSize c.size [a, b]).z at hqz
  have hdirection : e.descending = true ↔
      footprintsMeet e.reads e.writes = true ∧ VectorAboveZero a.origin b.origin := by
    rw [← vectorPositive_iff, ← Bool.and_eq_true]
    simp only [e, moveEntry, hindex, beq_self_eq_true, Bool.true_and]
    rfl
  cases hd : e.descending with
  | true =>
    have hvector := (hdirection.mp hd).2
    have hpq := before_of_rank_lt hboxq (hdesc hd hport)
    refine .inl (L.address_apart ?_ ?_ ?_) <;> simp only [Triple.add] <;> unfold VectorAboveZero Before at * <;> omega
  | false =>
    have hqp := before_of_rank_lt hboxp (hasc (.inl hd))
    by_cases hmeet : footprintsMeet e.reads e.writes = true
    · have hvector : ¬ VectorAboveZero a.origin b.origin := fun hv => by simp [hdirection.mpr ⟨hmeet, hv⟩] at hd
      refine .inr (L.address_apart ?_ ?_ ?_) <;> simp only [Triple.add] <;> unfold VectorAboveZero Before at * <;> omega
    · refine apart_of_footprints L hboxp hboxq ?_
      have hmeet := Bool.not_eq_true _ ▸ hmeet
      simpa only [e, moveEntry, Entry.reads, Entry.writes, Option.bind_some, NamedSide.accepted, ← hsame] using hmeet

end Sys2Proof.Machine
end

section
/-! Beats and bursts (spec/04, sections 4.3 and 4.4; spec/09, R176): the bytes that the beats over a run of cells bring from
memory and write to it, and how a list is cut. -/

namespace Sys2Proof.Machine

open Sys2Proof.Safety

/-! ### Lists cut into pieces -/

/-- The pieces of a list are the list. -/
theorem cut_flatten {α : Type} {n : Nat} (hn : 0 < n) :
    ∀ (fuel : Nat) (l : List α), l.length ≤ fuel → (cut n fuel l).flatten = l
  | 0, [], _ => rfl
  | _ + 1, [], _ => rfl
  | fuel + 1, a :: l, h => by
    have hshort : ((a :: l).drop n).length ≤ fuel := by
      rw [List.length_drop]
      simp only [List.length_cons] at h ⊢
      omega
    rw [cut, List.flatten_cons, cut_flatten hn fuel _ hshort, List.take_append_drop]

/-- The first piece, and the pieces of the rest. -/
theorem pieces_succ (size n : Nat) (bytes : List Byte) :
    pieces size (n + 1) bytes = bytes.take size :: pieces size n (bytes.drop size) := by
  simp [pieces, List.range_succ_eq_map, Function.comp_def, Nat.succ_mul, Nat.add_comm]

/-- A buffer of `n` elements is cut into its elements (R77). -/
theorem cut_eq_pieces {size : Nat} (hs : 0 < size) :
    ∀ (n fuel : Nat) (bytes : List Byte), bytes.length = n * size → n ≤ fuel → cut size fuel bytes = pieces size n bytes
  | 0, fuel, bytes, h, _ => by
    obtain rfl : bytes = [] := List.eq_nil_of_length_eq_zero (by simpa using h)
    cases fuel <;> rfl
  | n + 1, 0, _, _, hn => absurd hn (by omega)
  | n + 1, fuel + 1, [], h, _ => by
    rw [Nat.succ_mul, List.length_nil] at h
    omega
  | n + 1, fuel + 1, a :: l, h, hn => by
    have hrest : ((a :: l).drop size).length = n * size := by
      rw [List.length_drop, h, Nat.succ_mul]
      omega
    rw [cut, pieces_succ, cut_eq_pieces hs n fuel _ hrest (by omega)]

theorem elementsOf_eq_pieces {size n : Nat} (hs : 0 < size) {bytes : List Byte} (h : bytes.length = n * size) :
    elementsOf size bytes = pieces size n bytes :=
  cut_eq_pieces hs n _ bytes h (h ▸ Nat.le_mul_of_pos_right n hs)

/-! ### The lanes of a beat -/

/-- Lane `l` of a mask that starts at lane `i`: whether its cell holds a byte. -/
theorem laneMask_bit {l : Nat} (hl : l < 4) :
    ∀ (i : Nat) (cells : List (Option Byte)),
      (laneMask i cells).getLsbD l = (decide (i ≤ l) && (cells[l - i]?).join.isSome)
  | i, [] => by simp [laneMask]
  | i, c :: cs => by
    have hbit : (1#4 <<< i).getLsbD l = decide (i = l) := by
      rw [BitVec.getLsbD_shiftLeft, BitVec.getLsbD_one]
      simp only [hl, decide_true, Bool.true_and]
      by_cases h : i = l
      · simp [h]
      · by_cases hlt : l < i
        · simp [hlt, h]
        · have : l - i ≠ 0 := by omega
          simp [hlt, h, this]
    rw [laneMask, BitVec.getLsbD_or, laneMask_bit hl]
    by_cases h : i = l
    · subst h
      cases c <;> simp [hbit, -BitVec.getLsbD_eq_getElem]
    · have hmask : (if c.isSome = true then 1#4 <<< i else 0).getLsbD l = false := by
        split
        · simp [hbit, h, -BitVec.getLsbD_eq_getElem]
        · simp
      rw [hmask, Bool.false_or]
      by_cases hle : i < l
      · obtain ⟨d, rfl⟩ : ∃ d, l = i + (d + 1) := ⟨l - i - 1, by omega⟩
        have h1 : i + (d + 1) - (i + 1) = d := by omega
        have h2 : i + (d + 1) - i = d + 1 := by omega
        have h3 : i + 1 ≤ i + (d + 1) := by omega
        have h4 : i ≤ i + (d + 1) := by omega
        rw [h1, h2, List.getElem?_cons_succ, decide_eq_true h3, decide_eq_true h4]
      · have h3 : ¬ i + 1 ≤ l := by omega
        have h4 : ¬ i ≤ l := by omega
        rw [decide_eq_false h3, decide_eq_false h4]
        rfl

/-- The bytes that cells bring: one from each lane that holds a cell with a byte. -/
def cellBytes (byte : Nat → Byte) : Nat → List (Option Byte) → List Byte
  | _, [] => []
  | i, c :: cs => (if c.isSome then [byte i] else []) ++ cellBytes byte (i + 1) cs

theorem cellBytes_append (byte : Nat → Byte) :
    ∀ (i : Nat) (cs ds : List (Option Byte)),
      cellBytes byte i (cs ++ ds) = cellBytes byte i cs ++ cellBytes byte (i + cs.length) ds
  | i, [], ds => rfl
  | i, c :: cs, ds => by
    rw [List.cons_append, cellBytes, cellBytes, cellBytes_append byte (i + 1), List.append_assoc, List.length_cons,
      Nat.add_assoc, Nat.add_comm 1]

theorem cellBytes_none (byte : Nat → Byte) : ∀ (n i : Nat), cellBytes byte i (List.replicate n none) = []
  | 0, _ => rfl
  | n + 1, i => by
    rw [List.replicate_succ, cellBytes, cellBytes_none byte n]
    rfl

theorem cellBytes_some (byte : Nat → Byte) (b : Byte) :
    ∀ (n i : Nat), cellBytes byte i (List.replicate n (some b)) = (List.range n).map fun j => byte (i + j)
  | 0, _ => rfl
  | n + 1, i => by
    rw [List.replicate_succ, cellBytes, cellBytes_some byte b n, List.range_succ_eq_map]
    simp [Function.comp_def, Nat.add_assoc, Nat.add_comm 1]

theorem cellBytes_congr {f g : Nat → Byte} {i k : Nat} :
    ∀ (cells : List (Option Byte)), (∀ j < cells.length, f (i + j) = g (k + j)) → cellBytes f i cells = cellBytes g k cells
  | [], _ => rfl
  | c :: cs, h => by
    have hrest : cellBytes f (i + 1) cs = cellBytes g (k + 1) cs := by
      refine cellBytes_congr cs fun j hj => ?_
      have := h (j + 1) (by simpa using hj)
      rwa [Nat.add_comm j 1, ← Nat.add_assoc, ← Nat.add_assoc] at this
    have hfirst : f i = g k := h 0 (by simp)
    rw [cellBytes, cellBytes, hrest, hfirst]

/-- A read collects the bytes of the lanes that a beat enables, the lowest first (R176). -/
theorem laneBytes_laneMask (w : Word) {cells : List (Option Byte)} (h : cells.length ≤ 4) :
    laneBytes (laneMask 0 cells) w = cellBytes (fun l => w.extractLsb' (8 * l) 8) 0 cells := by
  have hgeneral : ∀ (cs : List (Option Byte)) (i : Nat), i + cs.length ≤ 4 →
      ((List.range' i (4 - i)).filter fun l => (cs[l - i]?).join.isSome).map (fun l => w.extractLsb' (8 * l) 8)
        = cellBytes (fun l => w.extractLsb' (8 * l) 8) i cs := by
    intro cs
    induction cs with
    | nil => intro i _; simp [cellBytes]
    | cons c cs ih =>
      intro i hi
      rw [List.length_cons] at hi
      have hrange : List.range' i (4 - i) = i :: List.range' (i + 1) (4 - (i + 1)) := by
        rw [show 4 - i = (4 - (i + 1)) + 1 by omega, List.range'_succ]
      have hrest : (List.range' (i + 1) (4 - (i + 1))).filter (fun l => ((c :: cs)[l - i]?).join.isSome)
          = (List.range' (i + 1) (4 - (i + 1))).filter fun l => (cs[l - (i + 1)]?).join.isSome := by
        refine List.filter_congr fun l hl => ?_
        have hlt := (List.mem_range'_1.mp hl).1
        rw [show l - i = (l - (i + 1)) + 1 by omega, List.getElem?_cons_succ]
      rw [hrange, List.filter_cons, hrest, cellBytes, ← ih (i + 1) (by omega)]
      cases c <;> simp
  have hzero := hgeneral cells 0 (by omega)
  rw [← hzero, laneBytes, List.range_eq_range']
  congr 1
  refine List.filter_congr fun l hl => ?_
  rw [laneMask_bit (by simpa using (List.mem_range'_1.mp hl).2)]
  simp

/-- A byte of the word at an address of memory (R176). -/
theorem wordAt_byte (mem : Nat → Byte) (a : Nat) {l : Nat} (hl : l < 4) :
    (wordAt mem a).extractLsb' (8 * l) 8 = mem (a + l) := by
  unfold wordAt
  ext i hi
  rw [BitVec.getElem_extractLsb', BitVec.getLsbD_append, BitVec.getLsbD_append, BitVec.getLsbD_append]
  obtain rfl | rfl | rfl | rfl : l = 0 ∨ l = 1 ∨ l = 2 ∨ l = 3 := by omega
  · simp [hi, show i < 16 by omega]
  · simp [show ¬ 8 + i < 8 by omega, show 8 + i < 16 by omega, show 8 + i - 8 = i by omega, hi]
  · simp [show ¬ 16 + i < 16 by omega, show 16 + i - 16 = i by omega, hi]
  · simp [show ¬ 24 + i < 16 by omega, show ¬ 24 + i - 16 < 8 by omega, show 24 + i - 16 - 8 = i by omega, hi]

/-! ### Beats over consecutive cells -/

/-- Beats take four cells at a time. -/
theorem packBeats_cons (a : Nat) {cells : List (Option Byte)} (h : cells ≠ []) :
    packBeats a cells = packBeat a (cells.take 4) :: packBeats (a + 4) (cells.drop 4) := by
  match cells, h with
  | [_], _ => rfl
  | [_, _], _ => rfl
  | [_, _, _], _ => rfl
  | _ :: _ :: _ :: _ :: _, _ => rfl

/-- What holds of no cell, and of cells where it holds of those after the first four, holds of all. -/
theorem fours_induction {P : Nat → List (Option Byte) → Prop} (nil : ∀ a, P a [])
    (step : ∀ a cells, cells ≠ [] → P (a + 4) (cells.drop 4) → P a cells) (a : Nat) (cells : List (Option Byte)) :
    P a cells := by
  induction hn : cells.length using Nat.strong_induction_on generalizing a cells with
  | _ n ih =>
    by_cases h : cells = []
    · rw [h]
      exact nil a
    · have hpos := List.length_pos_iff.mpr h
      exact step a cells h (ih (cells.length - 4) (by omega) (a + 4) _ (by simp))

theorem packBeat_address {a : Nat} (ha : a < 2 ^ 32) (cells : List (Option Byte)) :
    (packBeat a cells).address.toNat = a := by
  rw [packBeat, BitVec.toNat_ofNat, Nat.mod_eq_of_lt ha]

/-- A beat reads the bytes of its cells (R77, R176). -/
theorem packBeat_reads (mem : Nat → Byte) {a : Nat} (ha : a < 2 ^ 32) {cells : List (Option Byte)} (h : cells.length ≤ 4) :
    laneBytes (packBeat a cells).enables (wordAt mem (packBeat a cells).address.toNat) = cellBytes mem a cells := by
  rw [packBeat_address ha]
  refine (laneBytes_laneMask _ h).trans (cellBytes_congr cells fun j hj => ?_)
  rw [Nat.zero_add]
  exact wordAt_byte mem a (by omega)

/-- Beats over cells read the bytes of the cells, in order. -/
theorem packBeats_reads (mem : Nat → Byte) (a : Nat) (cells : List (Option Byte)) (h : a + cells.length ≤ 2 ^ 32) :
    (packBeats a cells).flatMap (fun b => laneBytes b.enables (wordAt mem b.address.toNat)) = cellBytes mem a cells := by
  revert h
  refine fours_induction (P := fun a cells => a + cells.length ≤ 2 ^ 32 → (packBeats a cells).flatMap
    (fun b => laneBytes b.enables (wordAt mem b.address.toNat)) = cellBytes mem a cells) ?_ ?_ a cells
  · intro a _
    rfl
  · intro a cells hne ih h
    have hpos := List.length_pos_iff.mpr hne
    by_cases hlong : 4 ≤ cells.length
    · rw [packBeats_cons a hne, List.flatMap_cons, packBeat_reads mem (by omega) (by simp), ih (by rw [List.length_drop]; omega)]
      conv_rhs => rw [← List.take_append_drop 4 cells, cellBytes_append, List.length_take, min_eq_left hlong]
    · have hdrop : cells.drop 4 = [] := List.drop_eq_nil_of_le (by omega)
      rw [packBeats_cons a hne, hdrop, List.take_of_length_le (by omega), List.flatMap_cons,
        packBeat_reads mem (by omega) (by omega)]
      exact List.append_nil _

/-- The beats over a byte range read the bytes of its cells, in order (R77). -/
theorem coverBeats_reads (mem : Nat → Byte) (a : Nat) (cells : List (Option Byte)) (h : a + cells.length ≤ 2 ^ 32) :
    (coverBeats a cells).flatMap (fun b => laneBytes b.enables (wordAt mem b.address.toNat)) = cellBytes mem a cells := by
  have hmod := Nat.mod_le a 4
  unfold coverBeats
  rw [packBeats_reads mem _ _ (by simp; omega), cellBytes_append, cellBytes_none, List.length_replicate,
    Nat.sub_add_cancel hmod]
  rfl

/-- Bursts of at most 16 beats are the beats, in order (R77). -/
theorem incrementingBursts_beats (write : Bool) (beats : List Beat) :
    (incrementingBursts write beats).flatMap Burst.beats = beats := by
  unfold incrementingBursts
  rw [List.flatMap_map]
  exact (List.flatMap_id' ..).trans (cut_flatten (by decide) _ beats le_rfl)

/-- The read bursts of a byte range bring its bytes in order (R77). -/
theorem readBursts_reads (mem : Nat → Byte) {a n : Nat} (h : a + n ≤ 2 ^ 32) :
    ((readBursts a n).flatMap Burst.beats).flatMap (fun b => laneBytes b.enables (wordAt mem b.address.toNat))
      = (List.range n).map fun i => mem (a + i) := by
  unfold readBursts
  rw [incrementingBursts_beats, List.flatMap_map]
  exact (coverBeats_reads mem a _ (by simpa using h)).trans (cellBytes_some mem 0 n a)

/-! ### What beats write -/

/-- Cell `j` is the byte after those of the lanes below it. -/
theorem filterMap_cell {v : Byte} {cells : List (Option Byte)} {j : Nat} (h : cells[j]? = some (some v)) :
    (cells.filterMap id)[((List.range j).filter fun l => (cells[l]?).join.isSome).length]? = some v := by
  have hcount : ∀ i, i ≤ cells.length →
      ((List.range i).filter fun l => (cells[l]?).join.isSome).length = ((cells.take i).filterMap id).length := by
    intro i
    induction i with
    | zero => simp
    | succ i ih =>
      intro hi
      have hlt : i < cells.length := by omega
      rw [List.range_succ, List.filter_append, List.length_append, ih (by omega), List.take_add_one, List.filterMap_append,
        List.length_append, List.getElem?_eq_getElem hlt]
      cases hc : cells[i] <;> simp [hlt, hc]
  obtain ⟨hj, hcell⟩ := List.getElem?_eq_some_iff.mp h
  have hsplit : cells.filterMap id = (cells.take j).filterMap id ++ v :: (cells.drop (j + 1)).filterMap id := by
    conv_lhs => rw [← List.take_append_drop j cells, List.drop_eq_getElem_cons hj, hcell]
    simp
  rw [hcount j (by omega), hsplit, List.getElem?_append_right le_rfl, Nat.sub_self, List.getElem?_cons_zero]

/-- A beat over at most four cells from a word address writes exactly the bytes of its cells (R176). -/
theorem packBeat_writes {a : Nat} (ha : a < 2 ^ 32) (haligned : a % 4 = 0) {cells : List (Option Byte)}
    (h : cells.length ≤ 4) (x : Nat) (v : Byte) :
    (packBeat a cells).byteAt x = some v ↔ a ≤ x ∧ cells[x - a]? = some (some v) := by
  have hbit (l : Nat) (hl : l < 4) : (packBeat a cells).enables.getLsbD l = (cells[l]?).join.isSome := by
    refine (laneMask_bit hl 0 cells).trans ?_
    simp
  have hlanes (l : Nat) (hl : l < 4) : (List.range l).filter (fun k => (packBeat a cells).enables.getLsbD k)
      = (List.range l).filter fun k => (cells[k]?).join.isSome :=
    List.filter_congr fun k hk => hbit k (by have := List.mem_range.mp hk; omega)
  unfold Beat.byteAt
  rw [packBeat_address ha, hlanes _ (Nat.mod_lt _ (by decide)), hbit _ (Nat.mod_lt _ (by decide))]
  by_cases hword : x / 4 = a / 4
  · have hx : a ≤ x ∧ x - a = x % 4 := by omega
    rw [hx.2]
    constructor
    · intro hv
      obtain ⟨⟨-, hsome⟩, hbyte⟩ := ite_eq_iff.mp hv |>.resolve_right (by simp)
      cases hc : cells[x % 4]? with
      | none => simp [hc] at hsome
      | some c =>
        cases c with
        | none => simp [hc] at hsome
        | some w =>
          have hw := (filterMap_cell hc).symm.trans hbyte
          exact ⟨hx.1, by rw [Option.some.inj hw]⟩
    · rintro ⟨-, hc⟩
      rw [if_pos ⟨hword, by simp [hc]⟩]
      exact filterMap_cell hc
  · rw [if_neg fun hc => hword hc.1]
    refine iff_of_false nofun ?_
    rintro ⟨hle, hc⟩
    obtain ⟨hlt, -⟩ := List.getElem?_eq_some_iff.mp hc
    omega

/-- Beats over cells from a word address write exactly the bytes of the cells. -/
theorem packBeats_writes (x : Nat) (v : Byte) (a : Nat) (cells : List (Option Byte)) (haligned : a % 4 = 0)
    (h : a + cells.length ≤ 2 ^ 32) :
    (∃ b ∈ packBeats a cells, b.byteAt x = some v) ↔ a ≤ x ∧ cells[x - a]? = some (some v) := by
  revert haligned h
  refine fours_induction (P := fun a cells => a % 4 = 0 → a + cells.length ≤ 2 ^ 32 →
    ((∃ b ∈ packBeats a cells, b.byteAt x = some v) ↔ a ≤ x ∧ cells[x - a]? = some (some v))) ?_ ?_ a cells
  · intro a _ _
    simp [packBeats]
  · intro a cells hne ih haligned h
    have hpos := List.length_pos_iff.mpr hne
    have hrest : (∃ b ∈ packBeats (a + 4) (cells.drop 4), b.byteAt x = some v) ↔
        a + 4 ≤ x ∧ cells[x - a]? = some (some v) := by
      by_cases hlong : 4 ≤ cells.length
      · rw [ih (by omega) (by rw [List.length_drop]; omega), List.getElem?_drop]
        refine and_congr_right fun hx => ?_
        rw [show 4 + (x - (a + 4)) = x - a by omega]
      · rw [List.drop_eq_nil_of_le (by omega)]
        refine iff_of_false (by simp [packBeats]) ?_
        rintro ⟨hx, hc⟩
        obtain ⟨hlt, -⟩ := List.getElem?_eq_some_iff.mp hc
        omega
    rw [packBeats_cons a hne, List.exists_mem_cons_iff, hrest, packBeat_writes (by omega) haligned (by simp)]
    by_cases hx : x - a < 4
    · rw [List.getElem?_take_of_lt hx]
      constructor
      · rintro (h | ⟨h, h'⟩)
        · exact h
        · exact ⟨by omega, h'⟩
      · exact .inl
    · constructor
      · rintro (⟨-, hc⟩ | ⟨h, h'⟩)
        · obtain ⟨hlt, -⟩ := List.getElem?_eq_some_iff.mp hc
          rw [List.length_take] at hlt
          omega
        · exact ⟨by omega, h'⟩
      · rintro ⟨h, h'⟩
        exact .inr ⟨by omega, h'⟩

/-- The beats over a byte range write exactly the bytes given; a cell without a byte stays (R78, R80). -/
theorem coverBeats_writes (x : Nat) (v : Byte) {a : Nat} {cells : List (Option Byte)} (h : a + cells.length ≤ 2 ^ 32) :
    (∃ b ∈ coverBeats a cells, b.byteAt x = some v) ↔ a ≤ x ∧ cells[x - a]? = some (some v) := by
  have hmod := Nat.mod_le a 4
  have hlt := Nat.mod_lt a (show 0 < 4 by decide)
  unfold coverBeats
  rw [packBeats_writes x v _ _ (by omega) (by simp; omega)]
  by_cases hx : a ≤ x
  · rw [List.getElem?_append_right (by simp; omega), List.length_replicate, show x - (a - a % 4) - a % 4 = x - a by omega]
    exact and_congr_left fun _ => iff_of_true (by omega) hx
  · refine iff_of_false ?_ fun hc => hx hc.1
    rintro ⟨hle, hc⟩
    rw [List.getElem?_append_left (by simp; omega), List.getElem?_replicate] at hc
    split at hc <;> simp at hc

/-- The words that beats over cells address depend on how many cells there are alone. -/
theorem packBeats_addresses :
    ∀ (a : Nat) (cells cells' : List (Option Byte)), cells.length = cells'.length →
      (packBeats a cells).map Beat.address = (packBeats a cells').map Beat.address := by
  refine fours_induction ?_ ?_
  · intro a cells' h
    rw [List.eq_nil_of_length_eq_zero (h.symm.trans rfl)]
  · intro a cells hne ih cells' h
    have hne' : cells' ≠ [] := by
      rintro rfl
      exact hne (List.eq_nil_of_length_eq_zero h)
    rw [packBeats_cons a hne, packBeats_cons a hne', List.map_cons, List.map_cons, ih (cells'.drop 4) (by simp [h])]
    rfl

theorem coverBeats_addresses (a : Nat) {cells cells' : List (Option Byte)} (h : cells.length = cells'.length) :
    (coverBeats a cells).map Beat.address = (coverBeats a cells').map Beat.address :=
  packBeats_addresses _ _ _ (by simp [h])

end Sys2Proof.Machine
end

section
/-! The data that a unit moves (O60): the bytes that its read side brings, those that its write side changes, and how its sides
begin and end. -/

namespace Sys2Proof.Machine

open Sys2Proof.Safety

/-! ### Elements that match the key -/

theorem wordBytes_eq_leastBytes (n : Nat) (w : Word) : wordBytes n w = leastBytes n w := by
  refine List.map_congr_left fun i _ => BitVec.eq_of_toNat_eq ?_
  rw [BitVec.extractLsb'_toNat, BitVec.toNat_ofNat, Nat.shiftRight_eq_div_pow, Nat.pow_mul]

theorem skips_iff (s : State) (t : Entry) (element : List Byte) :
    s.skips t element = true ↔ MatchesKey s t element := by
  unfold State.skips MatchesKey
  rw [Bool.and_eq_true]
  refine and_congr_right fun _ => ?_
  cases t.src with
  | none => simp
  | some d => cases hk : (s.surface d.surface).key <;> simp [hk, wordBytes_eq_leastBytes]

theorem skips_eq_decide (s : State) (t : Entry) (element : List Byte) :
    s.skips t element = decide (MatchesKey s t element) := by
  rw [Bool.eq_iff_iff, decide_eq_true_iff]
  exact skips_iff s t element

/-! ### The elements of a run -/

/-- The offsets of a run's elements, in order (R75). -/
def Run.offsets (r : Run) : List Triple :=
  (List.range r.length).map fun j => { r.offset with x := r.offset.x + j }

theorem Run.offsets_length (r : Run) : r.offsets.length = r.length := by
  simp [Run.offsets]

section Runs

variable {f : Surface} (hf : f.isPort = false) (origin : Triple)

include hf

/-- The elements of a run follow one another in memory (R3). -/
theorem address_in_run (r : Run) (j : Nat) :
    f.address (origin.add { r.offset with x := r.offset.x + j })
      = f.address (origin.add r.offset) + j * f.elementSize.toNat := by
  simp only [Surface.address, hf, Triple.add, Bool.false_eq_true, if_false]
  ring

/-- A run whose elements lie in the address space lies in it. -/
theorem run_bound {r : Run} (hr : r.length ≠ 0)
    (h : ∀ o ∈ r.offsets, f.address (origin.add o) + f.elementSize.toNat ≤ 2 ^ 32) :
    f.address (origin.add r.offset) + r.length * f.elementSize.toNat ≤ 2 ^ 32 := by
  have hlast := h _ (List.mem_map.mpr ⟨r.length - 1, List.mem_range.mpr (by omega), rfl⟩)
  rw [address_in_run hf, Nat.add_assoc, ← Nat.succ_mul, Nat.succ_eq_add_one, Nat.sub_add_cancel (by omega)] at hlast
  exact hlast

end Runs

/-! ### A range without bytes -/

theorem laneMask_none : ∀ n i : Nat, laneMask i (List.replicate n none) = 0
  | 0, _ => rfl
  | n + 1, i => by
    rw [List.replicate_succ, laneMask, laneMask_none n]
    simp

/-- The beats over an empty range enable no lane. -/
theorem coverBeats_nil (a : Nat) : ∀ b ∈ coverBeats a [], b.enables = 0 := by
  intro b hb
  have hlt := Nat.mod_lt a (show 0 < 4 by decide)
  rw [coverBeats, List.append_nil] at hb
  by_cases h : List.replicate (a % 4) (none : Option Byte) = []
  · rw [h] at hb
    cases hb
  · rw [packBeats_cons _ h, List.drop_eq_nil_of_le (by simp; omega), List.take_of_length_le (by simp; omega)] at hb
    rw [List.mem_singleton.mp hb]
    exact laneMask_none _ 0

/-! ### Reading a unit -/

/-- A read of a range that is empty or lies in the address space. -/
theorem readBursts_brings (mem : Nat → Byte) {a n : Nat} (h : n ≠ 0 → a + n ≤ 2 ^ 32) :
    ((readBursts a n).flatMap Burst.beats).flatMap (fun b => laneBytes b.enables (wordAt mem b.address.toNat))
      = (List.range n).map fun i => mem (a + i) := by
  by_cases hn : n = 0
  · subst hn
    unfold readBursts
    rw [incrementingBursts_beats, List.flatMap_map, List.range_zero, List.map_nil, List.flatMap_eq_nil_iff]
    intro b hb
    rw [Beat.asRead, coverBeats_nil a b hb]
    simp [laneBytes]
  · exact readBursts_reads mem (h hn)

/-- `n` elements of `size` bytes are `n * size` bytes. -/
theorem range_mul_map {α : Type} (g : Nat → α) (size : Nat) :
    ∀ n : Nat, (List.range (n * size)).map g =
      (List.range n).flatMap fun j => (List.range size).map fun i => g (j * size + i)
  | 0 => by simp
  | n + 1 => by
    rw [Nat.succ_mul, List.range_add, List.map_append, range_mul_map g size n, List.range_succ, List.flatMap_append,
      List.map_map]
    simp [Function.comp_def]

/-- The read bursts of runs of memory bring the bytes of their elements, in element order (R77, R82). -/
theorem readRuns_brings {f : Surface} (hf : f.isPort = false) (origin : Triple) (mem : Nat → Byte) (runs : List Run)
    (h : ∀ o ∈ runs.flatMap Run.offsets, f.address (origin.add o) + f.elementSize.toNat ≤ 2 ^ 32) :
    ((readRuns f origin runs).flatMap Burst.beats).flatMap (fun b => laneBytes b.enables (wordAt mem b.address.toNat))
      = (runs.flatMap Run.offsets).flatMap fun o =>
          (List.range f.elementSize.toNat).map fun i => mem (f.address (origin.add o) + i) := by
  induction runs with
  | nil => rfl
  | cons r runs ih =>
    rw [List.flatMap_cons] at h
    have hhere : ∀ o ∈ r.offsets, f.address (origin.add o) + f.elementSize.toNat ≤ 2 ^ 32 :=
      fun o ho => h o (List.mem_append_left _ ho)
    have hrun := readBursts_brings mem (a := f.address (origin.add r.offset)) (n := r.length * f.elementSize.toNat)
      fun hn => run_bound hf origin (left_ne_zero_of_mul hn) hhere
    unfold readRuns at ih ⊢
    rw [List.flatMap_cons, List.flatMap_append, List.flatMap_append, List.flatMap_cons, List.flatMap_append, hrun,
      ih fun o ho => h o (List.mem_append_right _ ho), range_mul_map, Run.offsets, List.flatMap_map]
    simp only [address_in_run hf, Nat.add_assoc]

/-! ### Writing a unit -/

/-- An element of a list of lists of one length, by its place. -/
theorem getElem?_flatMap_iff {α β : Type} {g : α → List β} {n : Nat} {y : β} :
    ∀ {l : List α} {k : Nat}, (∀ x ∈ l, (g x).length = n) →
      ((l.flatMap g)[k]? = some y ↔ ∃ j i x, l[j]? = some x ∧ (g x)[i]? = some y ∧ k = j * n + i)
  | [], k, _ => by simp
  | a :: l, k, h => by
    have ha := h a (List.mem_cons_self ..)
    have ih {k : Nat} := getElem?_flatMap_iff (y := y) (k := k) fun x hx => h x (List.mem_cons_of_mem _ hx)
    rw [List.flatMap_cons]
    constructor
    · intro hy
      by_cases hk : k < n
      · rw [List.getElem?_append_left (by omega)] at hy
        exact ⟨0, k, a, rfl, hy, by omega⟩
      · rw [List.getElem?_append_right (by omega), ih] at hy
        obtain ⟨j, i, x, hx, hi, hkn⟩ := hy
        exact ⟨j + 1, i, x, hx, hi, by rw [Nat.succ_mul]; omega⟩
    · rintro ⟨j, i, x, hx, hi, rfl⟩
      cases j with
      | zero =>
        obtain rfl : a = x := by simpa using hx
        obtain ⟨hlt, -⟩ := List.getElem?_eq_some_iff.mp hi
        rwa [Nat.zero_mul, Nat.zero_add, List.getElem?_append_left hlt]
      | succ j =>
        rw [Nat.succ_mul, List.getElem?_append_right (by omega), ih]
        exact ⟨j, i, x, hx, hi, by omega⟩

section Writes

variable (s : State) (t : Entry)

theorem cellsOf_length (element : List Byte) : (s.cellsOf t element).length = element.length := by
  unfold State.cellsOf
  split <;> simp

/-- A cell holds a byte of an element that is not skipped (R80). -/
theorem cellsOf_getElem? {element : List Byte} {i : Nat} {v : Byte} :
    (s.cellsOf t element)[i]? = some (some v) ↔ s.skips t element = false ∧ element[i]? = some v := by
  unfold State.cellsOf
  cases s.skips t element with
  | true =>
    refine iff_of_false ?_ (by simp)
    rw [if_pos rfl, List.getElem?_replicate]
    split <;> simp
  | false => simp

variable {s t} {f : Surface} (hf : f.isPort = false) (origin : Triple)

include hf

/-- The write of one run changes exactly the bytes of its elements that are not skipped (R78, R80). -/
theorem run_writes {r : Run} {elements : List (List Byte)} (hlength : elements.length = r.length)
    (hel : ∀ el ∈ elements, el.length = f.elementSize.toNat)
    (h : ∀ o ∈ r.offsets, f.address (origin.add o) + f.elementSize.toNat ≤ 2 ^ 32) (a : Nat) (v : Byte) :
    (∃ b ∈ coverBeats (f.address (origin.add r.offset)) (elements.flatMap (s.cellsOf t)), b.byteAt a = some v) ↔
      ∃ q ∈ r.offsets.zip elements, s.skips t q.2 = false ∧ ∃ i, q.2[i]? = some v ∧ a = f.address (origin.add q.1) + i := by
  have hcells : ∀ el ∈ elements, (s.cellsOf t el).length = f.elementSize.toNat := fun el hm => by
    rw [cellsOf_length, hel el hm]
  have htotal : (elements.flatMap (s.cellsOf t)).length = r.length * f.elementSize.toNat := by
    rw [List.length_flatMap, List.map_congr_left hcells, List.map_const', List.sum_replicate, hlength, smul_eq_mul]
  have hzip : (∃ q ∈ r.offsets.zip elements, s.skips t q.2 = false ∧ ∃ i, q.2[i]? = some v
        ∧ a = f.address (origin.add q.1) + i) ↔
      ∃ j i el, elements[j]? = some el ∧ (s.cellsOf t el)[i]? = some (some v)
        ∧ a = f.address (origin.add r.offset) + (j * f.elementSize.toNat + i) := by
    constructor
    · rintro ⟨⟨o, el⟩, hq, hskip, i, hv, ha⟩
      obtain ⟨j, hj⟩ := List.mem_iff_getElem?.mp hq
      obtain ⟨ho, hel⟩ := List.getElem?_zip_eq_some.mp hj
      obtain ⟨k, hk, rfl⟩ : ∃ k, (List.range r.length)[j]? = some k ∧ { r.offset with x := r.offset.x + k } = o := by
        simpa [Run.offsets] using ho
      obtain rfl : j = k := by simpa using (List.getElem?_eq_some_iff.mp hk).2
      refine ⟨j, i, el, hel, (cellsOf_getElem? s t).mpr ⟨hskip, hv⟩, ?_⟩
      rw [ha, address_in_run hf, Nat.add_assoc]
    · rintro ⟨j, i, el, hel, hcell, ha⟩
      obtain ⟨hskip, hv⟩ := (cellsOf_getElem? s t).mp hcell
      obtain ⟨hlt, -⟩ := List.getElem?_eq_some_iff.mp hel
      refine ⟨({ r.offset with x := r.offset.x + j }, el), List.mem_iff_getElem?.mpr ⟨j, ?_⟩, hskip, i, hv, ?_⟩
      · refine List.getElem?_zip_eq_some.mpr ⟨?_, hel⟩
        simp [Run.offsets, show j < r.length by omega]
      · rw [ha, address_in_run hf, Nat.add_assoc]
  rw [hzip]
  by_cases hr : r.length = 0
  · have hnone : elements = [] := List.eq_nil_of_length_eq_zero (hlength.trans hr)
    refine iff_of_false ?_ (by simp [hnone])
    rintro ⟨b, hb, hv⟩
    rw [hnone] at hb
    simp [Beat.byteAt, coverBeats_nil _ b hb] at hv
  · rw [coverBeats_writes a v (by rw [htotal]; exact run_bound hf origin hr h)]
    constructor
    · rintro ⟨hle, hcell⟩
      obtain ⟨j, i, el, hel, hi, hk⟩ := (getElem?_flatMap_iff hcells).mp hcell
      exact ⟨j, i, el, hel, hi, by omega⟩
    · rintro ⟨j, i, el, hel, hi, rfl⟩
      exact ⟨by omega, (getElem?_flatMap_iff hcells).mpr ⟨j, i, el, hel, hi, by omega⟩⟩

/-- The write bursts of runs of memory change exactly the bytes of the elements that are not skipped, each at its offset
(R78, R80, R82). -/
theorem writeRuns_writes (a : Nat) (v : Byte) :
    ∀ {runs : List Run} {elements : List (List Byte)}, elements.length = runElements runs →
      (∀ el ∈ elements, el.length = f.elementSize.toNat) →
      (∀ o ∈ runs.flatMap Run.offsets, f.address (origin.add o) + f.elementSize.toNat ≤ 2 ^ 32) →
      ((∃ b ∈ (writeRuns f origin runs (elements.flatMap (s.cellsOf t))).flatMap Burst.beats, b.byteAt a = some v) ↔
        ∃ q ∈ (runs.flatMap Run.offsets).zip elements, s.skips t q.2 = false
          ∧ ∃ i, q.2[i]? = some v ∧ a = f.address (origin.add q.1) + i)
  | [], _, _, _, _ => by simp [writeRuns]
  | r :: runs, elements, hlength, hel, h => by
    rw [List.flatMap_cons] at h
    simp only [runElements, List.map_cons, List.sum_cons] at hlength
    have hhere : (elements.take r.length).length = r.length := by rw [List.length_take]; omega
    have hrest : (elements.drop r.length).length = runElements runs := by
      rw [List.length_drop, hlength]
      exact Nat.add_sub_cancel_left ..
    have hcells : ((elements.take r.length).flatMap (s.cellsOf t)).length = r.length * f.elementSize.toNat := by
      have hmap : ∀ el ∈ elements.take r.length, (s.cellsOf t el).length = f.elementSize.toNat := fun el hm => by
        rw [cellsOf_length, hel el (List.mem_of_mem_take hm)]
      rw [List.length_flatMap, List.map_congr_left hmap, List.map_const', List.sum_replicate, hhere, smul_eq_mul]
    have hsplit : elements.flatMap (s.cellsOf t) =
        (elements.take r.length).flatMap (s.cellsOf t) ++ (elements.drop r.length).flatMap (s.cellsOf t) := by
      rw [← List.flatMap_append, List.take_append_drop]
    have hzip : (r.offsets ++ runs.flatMap Run.offsets).zip elements =
        r.offsets.zip (elements.take r.length) ++ (runs.flatMap Run.offsets).zip (elements.drop r.length) := by
      conv_lhs => rw [← List.take_append_drop r.length elements]
      exact List.zip_append (by rw [hhere, r.offsets_length])
    have hfirst := run_writes (s := s) (t := t) hf origin hhere (fun el hm => hel el (List.mem_of_mem_take hm))
      (fun o ho => h o (List.mem_append_left _ ho)) a v
    have hothers := writeRuns_writes a v hrest (fun el hm => hel el (List.mem_of_mem_drop hm))
      fun o ho => h o (List.mem_append_right _ ho)
    rw [writeRuns, hsplit, List.take_left' hcells, List.drop_left' hcells, List.flatMap_append, incrementingBursts_beats,
      List.flatMap_cons, hzip]
    simp only [List.mem_append, or_and_right, exists_or, hfirst, hothers]

end Writes

/-- Which words a write addresses does not depend on the cells (R80). -/
theorem writeRuns_addresses (f : Surface) (origin : Triple) :
    ∀ (runs : List Run) {cells cells' : List (Option Byte)}, cells.length = cells'.length →
      ((writeRuns f origin runs cells).flatMap Burst.beats).map Beat.address
        = ((writeRuns f origin runs cells').flatMap Burst.beats).map Beat.address
  | [], _, _, _ => rfl
  | r :: runs, cells, cells', h => by
    simp only [writeRuns, List.flatMap_append, incrementingBursts_beats, List.map_append]
    rw [coverBeats_addresses _ (cells' := cells'.take (r.length * f.elementSize.toNat)) (by simp [h]),
      writeRuns_addresses f origin runs (cells' := cells'.drop (r.length * f.elementSize.toNat)) (by simp [h])]

/-! ### The sides of a unit -/

/-- The bursts of a mover that are in progress, their answers not discarded. -/
def heldBursts (s : State) (m : MoverIndex) : List Burst :=
  (s.grant.toList.filter fun g => g.live && g.owner == .mover m).map Grant.burst

theorem outstanding_eq (s : State) (m : MoverIndex) :
    outstanding s m = heldBursts s m ++ (s.mover m).request.toList ++ (s.mover m).bursts := rfl

/-- A request of a mover: its burst is in progress or waits. -/
theorem requestBurst_pending {s : State} {m : MoverIndex} (b : Burst) (h : heldBursts s m = []) :
    heldBursts (s.requestBurst (.mover m) b) m ++ ((s.requestBurst (.mover m) b).mover m).request.toList
      = if s.grant = none then b :: (s.mover m).request.toList else [b] := by
  unfold State.requestBurst
  cases hg : s.grant with
  | none => simp [heldBursts]
  | some g =>
    have hnone : heldBursts (s.setWaiting (.mover m) (some b)) m = [] := h
    show _ = [b]
    rw [hnone]
    simp [State.setWaiting, Mover.requesting]

theorem requestBurst_bursts (s : State) (m : MoverIndex) (b : Burst) :
    ∃ q, (s.requestBurst (.mover m) b).mover m = (s.mover m).requesting q := by
  unfold State.requestBurst
  split
  · exact ⟨(s.mover m).request, rfl⟩
  · exact ⟨some b, setMover_mover s m _⟩

/-- The mover of a side that starts: its items but bursts and request as before. -/
theorem launch_mover (s : State) (m : MoverIndex) (bursts : List Burst) :
    ∃ q, (s.launch m bursts).mover m = ((s.mover m).queued bursts.tail).requesting q := by
  cases bursts with
  | nil => exact ⟨(s.mover m).request, setMover_mover s m _⟩
  | cons b bs =>
    obtain ⟨q, hq⟩ := requestBurst_bursts (s.setMover m ((s.mover m).queued bs)) m b
    exact ⟨q, hq.trans (by rw [setMover_mover]; rfl)⟩

/-- A side that starts has its bursts outstanding (R77, R88). -/
theorem launch_outstanding {s : State} {m : MoverIndex} (bursts : List Burst) (h : heldBursts s m = [])
    (hr : (s.mover m).request = none) : outstanding (s.launch m bursts) m = bursts := by
  cases bursts with
  | nil =>
    have hnone : heldBursts (s.launch m []) m = [] := h
    rw [outstanding_eq, hnone]
    simp [State.launch, Mover.queued, hr]
  | cons b bs =>
    have hpending := requestBurst_pending (s := s.setMover m ((s.mover m).queued bs)) (m := m) b h
    obtain ⟨q, hq⟩ := requestBurst_bursts (s.setMover m ((s.mover m).queued bs)) m b
    rw [outstanding_eq, State.launch, hpending, hq, setMover_mover]
    simp only [Mover.queued, hr, Mover.requesting]
    split <;> rfl

/-- A mover with nothing outstanding has no burst in progress and no request. -/
theorem idle_of_outstanding {s : State} {m : MoverIndex} (h : outstanding s m = []) :
    heldBursts s m = [] ∧ (s.mover m).request = none ∧ (s.mover m).bursts = [] := by
  rw [outstanding_eq, List.append_eq_nil_iff, List.append_eq_nil_iff] at h
  exact ⟨h.1.1, Option.toList_eq_nil_iff.mp h.1.2, h.2⟩

theorem fillElements_eq (s : State) (t : Entry) (p : Nat) :
    s.fillElements t p = List.replicate (s.unitElements t p) (leastBytes (s.elementBytes t) t.fill) := by
  rw [State.fillElements, wordBytes_eq_leastBytes]

/-- The side on which a unit starts (R74, R79). -/
def startSide (t : Entry) : Direction :=
  if t.kind = .fill then .write else .read

/-- A unit starts with the bursts of its first side. -/
theorem startUnit_eq {s : State} {m : MoverIndex} {t : Entry} (ht : (s.mover m).transfer = some t) :
    s.startUnit m =
      (s.setMover m ((s.mover m).beginUnit (startSide t))).launch m (startPlan s t (s.mover m).position) := by
  unfold State.startUnit startPlan startSide
  dsimp only
  rw [ht]
  dsimp only
  split
  · rw [fillElements_eq]
  · rfl

theorem setMover_setMover (s : State) (m : MoverIndex) (v w : Mover) : (s.setMover m v).setMover m w = s.setMover m w := by
  simp [State.setMover]

theorem burstRuns_keyed (e : Entry) (keyed : Bool) (fuel i n : Nat) :
    burstRuns { e with keyed := keyed } fuel i n = burstRuns e fuel i n := by
  induction fuel generalizing i n with
  | zero => rfl
  | succ fuel ih => simp only [burstRuns, ih]

/-- The key of a transfer leaves its runs as they are. -/
theorem unitRuns_keyed (s : State) (e : Entry) (keyed : Bool) (p : Nat) :
    s.unitRuns { e with keyed := keyed } p = s.unitRuns e p := by
  have hsurface : s.portSurface { e with keyed := keyed } = s.portSurface e := rfl
  unfold State.unitRuns
  rw [hsurface]
  cases s.portSurface e with
  | none => rfl
  | some f => exact burstRuns_keyed e keyed _ _ _

/-- The plan of a write side to memory. -/
theorem writePlan_memory {s : State} {e : Entry} {d : Side} (hd : e.dst = some d)
    (hmemory : (s.surface d.surface).isPort = false) (p : Nat) (elements : List (List Byte)) :
    s.writePlan e p elements =
      writeRuns (s.surface d.surface) d.origin (s.unitRuns e p) (elements.flatMap (s.cellsOf e)) := by
  unfold State.writePlan
  rw [hd]
  exact if_neg (by simp [hmemory])

/-- The port free, with no burst in progress. -/
def State.portFree (s : State) : State :=
  { s with grant := none }

/-- The read side is answered in full at a free port: the elements of the buffer are compared with the key, and the first burst
of the write side is in progress (R77, R80, R88). -/
theorem startWrite_launches {u : State} {m : MoverIndex} {t : Entry} {n : Nat} {first : Burst} {later : List Burst}
    (ht : (u.mover m).transfer = some t) (hes : 0 < u.elementBytes t)
    (hwhole : (u.mover m).buffer.length = n * u.elementBytes t) (hfree : u.grant = none)
    (hplan : u.writePlan t (u.mover m).position (pieces (u.elementBytes t) n (u.mover m).buffer) = first :: later) :
    u.startWrite m =
      (u.setMover m (((u.mover m).compared
        (matching u t (pieces (u.elementBytes t) n (u.mover m).buffer))).queued later)).grantTo (.mover m) first := by
  have hmatched : (pieces (u.elementBytes t) n (u.mover m).buffer).countP (u.skips t) =
      matching u t (pieces (u.elementBytes t) n (u.mover m).buffer) :=
    List.countP_congr fun el _ => by rw [skips_eq_decide]
  have hsame (v : Mover) (els : List (List Byte)) :
      (u.setMover m v).writePlan t (u.mover m).position els = u.writePlan t (u.mover m).position els := rfl
  unfold State.startWrite
  dsimp only
  rw [ht]
  dsimp only
  rw [elementsOf_eq_pieces hes hwhole, hmatched, hsame, hplan]
  unfold State.launch State.requestBurst
  dsimp only
  rw [setMover_setMover, setMover_grant, hfree, setMover_mover]

theorem portFree_setMover (s : State) (m : MoverIndex) (v w : Mover) :
    (s.setMover m v).portFree.setMover m w = (s.setMover m w).portFree :=
  congrArg State.portFree (setMover_setMover s m v w)

/-- Nobody waits after an update of a mover that has no request. -/
theorem waiting_setMover {s : State} {m : MoverIndex} {v : Mover} (h : ∀ r, s.waiting r = none) (hv : v.request = none)
    (r : Requester) : (s.setMover m v).waiting r = none := by
  cases r with
  | reader => exact h .reader
  | mover k =>
    by_cases hk : k = m
    · rw [hk]
      exact (congrArg Mover.request (setMover_mover s m v)).trans hv
    · exact (congrArg Mover.request (setMover_mover_ne s hk v)).trans (h (.mover k))

/-- The last beat of a mover's read burst, where nobody waits: its bytes are taken, the port is free, and the mover goes on. -/
theorem answerBeat_lastOfRead {s : State} {m : MoverIndex} {g : Grant} {b : Beat} (data : Word) (hgrant : s.grant = some g)
    (hlive : g.live = true) (howner : g.owner = .mover m) (hread : g.burst.write = false) (hbeats : g.burst.beats = [b])
    (hquiet : ∀ r, s.waiting r = none) :
    s.answerBeat data =
      let u := (s.setMover m ((s.mover m).taking (laneBytes b.enables data))).portFree
      u.eitherOrder (u.continueSide m) := by
  have hwaiting := waiting_setMover (m := m) (v := (s.mover m).taking (laneBytes b.enables data)) hquiet (hquiet (.mover m))
  unfold State.answerBeat
  rw [hgrant]
  dsimp only
  rw [hbeats]
  simp only [hlive, State.takeData, hread, howner, Bool.false_eq_true, if_false, if_true, List.isEmpty_nil,
    State.completeBurst, releasePort_quiet hwaiting]
  rfl

/-- Settles O60, side by side: what a unit requests at its start, what its read side brings, what its write side changes, and
how the one follows the other. -/
theorem unitsMoveTheirData : Obligations.UnitsMoveTheirData := by
  intro s m t ht helement p n es
  have hes : 0 < es := by
    rcases helement with h | h | h <;> (show 0 < s.elementBytes t) <;> omega
  refine ⟨?start, fun d hd hs haddressed mem => ?reads, fun d hd hs => ?readsPort,
    fun elements hlength hel => ⟨fun d hd hs haddressed => ?writes, fun d hd hs => ?writesPort⟩, ?next⟩
  case start =>
    intro hout u
    obtain ⟨hheld, hrequest, -⟩ := idle_of_outstanding hout
    have hu : u = _ := startUnit_eq ht
    obtain ⟨q, hq⟩ := launch_mover (s.setMover m ((s.mover m).beginUnit (startSide t))) m (startPlan s t p)
    rw [setMover_mover] at hq
    rw [hu, hq]
    refine ⟨launch_outstanding _ hheld ?_, rfl, rfl, rfl⟩
    rw [setMover_mover]
    exact hrequest
  case reads =>
    obtain ⟨hsize, hbound⟩ := haddressed
    have hread := readRuns_brings (isPort_eq_false.mpr hs) d.origin mem (s.unitRuns t p) (by rw [hsize]; exact hbound)
    unfold State.readPlan
    rw [hd]
    dsimp only
    rw [if_neg (by simp [isPort_eq_false.mpr hs]), hread, hsize]
    rfl
  case readsPort =>
    unfold State.readPlan
    rw [hd]
    exact if_pos (isPort_eq_true.mpr hs)
  case writes =>
    obtain ⟨hsize, hbound⟩ := haddressed
    have hmemory := isPort_eq_false.mpr hs
    have hplan (keyed : Bool) : s.writePlan { t with keyed := keyed } p elements =
        writeRuns (s.surface d.surface) d.origin (s.unitRuns t p)
          (elements.flatMap (s.cellsOf { t with keyed := keyed })) :=
      unitRuns_keyed s t keyed p ▸ writePlan_memory (e := { t with keyed := keyed }) hd hmemory p elements
    refine ⟨fun a v => ?_, ?_⟩
    · rw [show s.writePlan t p elements = _ from hplan t.keyed,
        writeRuns_writes hmemory d.origin a v hlength (by rw [hsize]; exact hel) (by rw [hsize]; exact hbound)]
      constructor
      · rintro ⟨⟨o, el⟩, hq, hskip, i, hv, ha⟩
        obtain ⟨j, hj⟩ := List.mem_iff_getElem?.mp hq
        obtain ⟨ho, hmem⟩ := List.getElem?_zip_eq_some.mp hj
        exact ⟨j, i, o, el, ho, hmem, fun hm => by simp [(skips_iff s t el).mpr hm] at hskip, hv, ha⟩
      · rintro ⟨j, i, o, el, ho, hmem, hkey, hv, ha⟩
        refine ⟨(o, el), List.mem_iff_getElem?.mpr ⟨j, List.getElem?_zip_eq_some.mpr ⟨ho, hmem⟩⟩, ?_, i, hv, ha⟩
        exact Bool.eq_false_iff.mpr fun hm => hkey ((skips_iff s t el).mp hm)
    · rw [hplan false, show s.writePlan t p elements = _ from hplan t.keyed]
      refine writeRuns_addresses _ _ _ ?_
      rw [List.length_flatMap, List.length_flatMap]
      simp only [cellsOf_length]
  case writesPort =>
    unfold State.writePlan
    rw [hd]
    refine (if_pos (isPort_eq_true.mpr hs)).trans ?_
    simp only [skips_eq_decide]
  case next =>
    intro data g b first later hreset hgrant hlive howner hread hbeats hbursts hside hquiet _ whole elements hwhole hplan
    show Host.Outcome.next (s.unlessReset (s.answerBeat data)) = _
    rw [unlessReset_high hreset, answerBeat_lastOfRead data hgrant hlive howner hread hbeats hquiet]
    dsimp only
    generalize hu : (s.setMover m ((s.mover m).taking (laneBytes b.enables data))).portFree = u
    have hmover : u.mover m = (s.mover m).taking (laneBytes b.enables data) := by
      rw [← hu]
      exact setMover_mover s m _
    have hbytes : u.elementBytes t = es := by rw [← hu]; rfl
    have hsame : u.writePlan t p elements = first :: later := by
      rw [← hu]
      exact hplan
    have hmatching : matching u t elements = matching s t elements := by
      rw [← hu]
      rfl
    have hcontinue : u.continueSide m = u.startWrite m := by
      unfold State.continueSide
      rw [hmover]
      simp only [Mover.taking, hbursts, hside]
    have hbuffer : (u.mover m).buffer = whole := by rw [hmover]; rfl
    have hstart := startWrite_launches (u := u) (m := m) (t := t) (n := n) (first := first) (later := later)
      (by rw [hmover]; exact ht) (hbytes ▸ hes) (by rw [hbuffer, hbytes]; exact hwhole) (by rw [← hu]; rfl)
      (by rw [hbuffer, hbytes, hmover]; exact hsame)
    rw [hbuffer, hbytes, show pieces es n whole = elements from rfl, hmatching, hmover, ← hu, portFree_setMover] at hstart
    rw [hcontinue, ← hu, hstart, eitherOrder_of_quiet]
    · rfl
    · refine firstWaiting_none fun r _ => ?_
      have hwaiting (w : Mover) (hw : w.request = none) : (s.setMover m w).waiting r = none := waiting_setMover hquiet hw r
      cases r
      · exact hwaiting _ (hquiet (.mover m))
      · exact hwaiting _ (hquiet (.mover m))

end Sys2Proof.Machine
end

section
/-! The bursts of a side, counted (spec/04, sections 4.3 and 4.4): which way they go, that a side has some, and how many bytes a
read side brings. -/

namespace Sys2Proof.Machine

open Sys2Proof.Safety

/-! ### Lanes -/

/-- The lanes that a beat enables. -/
def Beat.lanes (b : Beat) : Nat :=
  ((List.range 4).filter fun l => b.enables.getLsbD l).length

theorem laneBytes_length (b : Beat) (w : Word) : (laneBytes b.enables w).length = b.lanes := by
  simp [laneBytes, Beat.lanes]

/-- The lanes that a list of beats enables. -/
def beatLanes (beats : List Beat) : Nat :=
  (beats.map Beat.lanes).sum

theorem beatLanes_cons (b : Beat) (beats : List Beat) : beatLanes (b :: beats) = b.lanes + beatLanes beats := by
  simp [beatLanes]

theorem enabledLanes_cons (b : Burst) (bursts : List Burst) :
    enabledLanes (b :: bursts) = beatLanes b.beats + enabledLanes bursts := by
  rw [enabledLanes, List.map_cons, List.sum_cons]
  rfl

theorem enabledLanes_append (bs cs : List Burst) : enabledLanes (bs ++ cs) = enabledLanes bs + enabledLanes cs := by
  simp [enabledLanes]

theorem enabledLanes_eq : ∀ bursts : List Burst, enabledLanes bursts = beatLanes (bursts.flatMap Burst.beats)
  | [] => rfl
  | b :: bursts => by
    rw [enabledLanes_cons, enabledLanes_eq bursts, List.flatMap_cons]
    simp [beatLanes]

theorem cellBytes_length (byte : Nat → Byte) :
    ∀ (i : Nat) (cells : List (Option Byte)), (cellBytes byte i cells).length = cells.countP Option.isSome
  | _, [] => rfl
  | i, c :: cs => by
    rw [cellBytes, List.length_append, cellBytes_length byte (i + 1) cs, List.countP_cons]
    cases c <;> simp [Nat.add_comm]

/-- A beat enables the lanes of its cells that hold a byte. -/
theorem packBeat_lanes (a : Nat) {cells : List (Option Byte)} (h : cells.length ≤ 4) :
    (packBeat a cells).lanes = cells.countP Option.isSome := by
  rw [← laneBytes_length _ 0, packBeat, laneBytes_laneMask 0 h, cellBytes_length]

theorem packBeats_lanes (a : Nat) (cells : List (Option Byte)) :
    beatLanes (packBeats a cells) = cells.countP Option.isSome := by
  refine fours_induction (P := fun a cells => beatLanes (packBeats a cells) = cells.countP Option.isSome) (fun _ => rfl)
    ?_ a cells
  intro a cells hne ih
  rw [packBeats_cons a hne, beatLanes_cons, ih, packBeat_lanes a (by simp), ← List.countP_append, List.take_append_drop]

theorem coverBeats_lanes (a : Nat) (cells : List (Option Byte)) :
    beatLanes (coverBeats a cells) = cells.countP Option.isSome := by
  rw [coverBeats, packBeats_lanes, List.countP_append]
  simp

theorem coverBeats_ne_nil (a : Nat) {cells : List (Option Byte)} (h : cells ≠ []) : coverBeats a cells ≠ [] := by
  rw [coverBeats, packBeats_cons _ (by simp [h])]
  exact List.cons_ne_nil _ _

/-- The port beat of an element enables as many lanes as the element has bytes (R83). -/
theorem portBeat_lanes {f : Surface} (hsize : ElementSizeLegal f.elementSize.toNat)
    (haligned : f.base.toNat % f.elementSize.toNat = 0) (bytes : List Byte) :
    (portBeat f bytes).lanes = f.elementSize.toNat := by
  have hall : ∀ r < 4, ∀ n ∈ [1, 2, 4], r % n = 0 →
      ((List.range 4).filter fun l => (laneMask r (List.replicate n (some 0))).getLsbD l).length = n := by decide
  have hfour : f.base.toNat % 4 % f.elementSize.toNat = 0 := by
    rcases hsize with h | h | h <;> rw [h] at haligned ⊢ <;> omega
  exact hall _ (Nat.mod_lt _ (by decide)) _ (by simpa [ElementSizeLegal] using hsize) hfour

/-! ### Bursts -/

theorem incrementingBursts_write (write : Bool) (beats : List Beat) :
    ∀ b ∈ incrementingBursts write beats, b.write = write := by
  intro b hb
  obtain ⟨_, _, rfl⟩ := List.mem_map.mp hb
  rfl

theorem incrementingBursts_ne_nil (write : Bool) {beats : List Beat} (h : beats ≠ []) :
    incrementingBursts write beats ≠ [] := by
  intro hnil
  have hbeats := incrementingBursts_beats write beats
  rw [hnil] at hbeats
  exact h hbeats.symm

theorem readBursts_lanes (a n : Nat) : enabledLanes (readBursts a n) = n := by
  rw [enabledLanes_eq, readBursts, incrementingBursts_beats]
  refine Eq.trans (congrArg List.sum (List.map_map ..)) ((coverBeats_lanes a _).trans ?_)
  rw [List.countP_replicate]
  rfl

/-- A read of memory brings the bytes of its elements. -/
theorem readRuns_lanes (f : Surface) (origin : Triple) (runs : List Run) :
    enabledLanes (readRuns f origin runs) = runElements runs * f.elementSize.toNat := by
  induction runs with
  | nil => simp [readRuns, enabledLanes, runElements]
  | cons r runs ih =>
    unfold readRuns at ih ⊢
    rw [List.flatMap_cons, enabledLanes_append, readBursts_lanes, ih]
    simp [runElements, Nat.add_mul]

theorem readRuns_reads (f : Surface) (origin : Triple) (runs : List Run) : ∀ b ∈ readRuns f origin runs, b.write = false := by
  intro b hb
  obtain ⟨r, -, hr⟩ := List.mem_flatMap.mp hb
  exact incrementingBursts_write false _ b hr

theorem portBursts_write (f : Surface) (write : Bool) (elements : List (List Byte)) :
    ∀ b ∈ portBursts f write elements, b.write = write := by
  intro b hb
  unfold portBursts at hb
  dsimp only at hb
  split at hb
  · split at hb
    · cases hb
    · rw [List.mem_singleton.mp hb]
      rfl
  · obtain ⟨_, _, rfl⟩ := List.mem_map.mp hb
    rfl

/-- The port side of a burst makes one access for each of its elements (R83). -/
theorem portBursts_beats (f : Surface) (write : Bool) (elements : List (List Byte)) :
    (portBursts f write elements).flatMap Burst.beats = elements.map (portBeat f) := by
  unfold portBursts
  dsimp only
  split
  · cases elements <;> simp [mkBurst]
  · rw [List.flatMap_map, List.map_eq_flatMap]
    simp [mkBurst]

theorem portBursts_lanes {f : Surface} (hsize : ElementSizeLegal f.elementSize.toNat)
    (haligned : f.base.toNat % f.elementSize.toNat = 0) (write : Bool) (elements : List (List Byte)) :
    enabledLanes (portBursts f write elements) = elements.length * f.elementSize.toNat := by
  have hlanes : elements.map (Beat.lanes ∘ portBeat f) = elements.map fun _ => f.elementSize.toNat :=
    List.map_congr_left fun el _ => portBeat_lanes hsize haligned el
  rw [enabledLanes_eq, portBursts_beats, beatLanes, List.map_map, hlanes]
  simp

theorem writeRuns_writes_only (f : Surface) (origin : Triple) :
    ∀ (runs : List Run) (cells : List (Option Byte)), ∀ b ∈ writeRuns f origin runs cells, b.write = true
  | [], _, b, hb => by cases hb
  | r :: runs, cells, b, hb => by
    rcases List.mem_append.mp hb with h | h
    · exact incrementingBursts_write true _ b h
    · exact writeRuns_writes_only f origin runs _ b h

end Sys2Proof.Machine
end

section
/-! What a held entry keeps of its acceptance, and the plans of its units: the units depend on the descriptions of the entry's
surfaces alone, and a unit that starts has bursts, which bring what it reads. -/

namespace Sys2Proof.Machine

open Sys2Proof.Safety

/-! ### Held entries -/

/-- An entry as it is held: what acceptance fixed, with a legal description of every surface that it names. -/
structure Fit (s : State) (e : Entry) : Prop where
  entry : EntrySound s e
  legal : ∀ i ∈ e.surfaces, DescriptorLegal (s.surface i)

theorem side_mem_surfaces {e : Entry} {d : Side} (h : d ∈ e.src.toList ++ e.dst.toList) : d.surface ∈ e.surfaces := by
  unfold Entry.surfaces
  rw [List.mem_append, Option.mem_toList, Option.mem_toList] at h
  rcases h with h | h <;> rw [h]
  · cases e.dst with
    | none => simp
    | some b =>
      dsimp only
      split
      · next hab => simp [hab]
      · simp
  · cases e.src with
    | none => simp
    | some a =>
      dsimp only
      split <;> simp

theorem src_mem_surfaces {e : Entry} {d : Side} (h : e.src = some d) : d.surface ∈ e.surfaces :=
  side_mem_surfaces (List.mem_append_left _ (by simp [h]))

theorem dst_mem_surfaces {e : Entry} {d : Side} (h : e.dst = some d) : d.surface ∈ e.surfaces :=
  side_mem_surfaces (List.mem_append_right _ (by simp [h]))

/-- A transfer has a destination. -/
theorem Fit.dst {s : State} {e : Entry} (h : Fit s e) (hk : e.kind ≠ .fence) : ∃ d, e.dst = some d := by
  obtain ⟨-, -, hfill, hmove, -⟩ := h.entry
  refine Option.isSome_iff_exists.mp ?_
  cases hkind : e.kind with
  | move => exact (hmove hkind).2
  | fill => exact (hfill hkind).2
  | fence => exact absurd hkind hk

theorem portSurface_mem {s : State} {e : Entry} {f : Surface} (h : s.portSurface e = some f) :
    ∃ i ∈ e.surfaces, f = s.surface i ∧ f.isPort = true := by
  obtain ⟨d, hd, rfl⟩ := List.mem_map.mp (List.mem_of_find?_eq_some h)
  exact ⟨d.surface, side_mem_surfaces hd, rfl, List.find?_some h⟩

theorem legal_element {f : Surface} (h : DescriptorLegal f) : ElementSizeLegal f.elementSize.toNat := by
  obtain ⟨hsize, -⟩ := h
  exact hsize

theorem legal_burst {f : Surface} (h : DescriptorLegal f) (hp : f.isPort = true) : 1 ≤ f.burst.toNat := by
  obtain ⟨-, -, -, -, hport, -⟩ := h
  obtain ⟨-, -, -, -, -, hburst, -⟩ := hport (isPort_eq_true.mp hp)
  exact hburst

theorem elementBytes_eq {s : State} {e : Entry} {d : Side} (h : e.dst = some d) :
    s.elementBytes e = (s.surface d.surface).elementSize.toNat := by
  unfold State.elementBytes
  rw [h]

/-- The units of a held transfer are those of O27. -/
theorem Fit.units {s : State} {e : Entry} (h : Fit s e) (hk : e.kind ≠ .fence) : UnitsFit s e where
  element := by
    obtain ⟨d, hd⟩ := h.dst hk
    rw [elementBytes_eq hd]
    exact legal_element (h.legal _ (dst_mem_surfaces hd))
  burst f hf := by
    obtain ⟨i, hi, rfl, hp⟩ := portSurface_mem hf
    exact legal_burst (h.legal i hi) hp

/-! ### Equal descriptions -/

/-- The items of a description that the units turn on. -/
theorem items_of_description {f g : Surface} (h : g.description = f.description) :
    g.elementSize = f.elementSize ∧ g.isPort = f.isPort ∧ g.burst = f.burst := by
  have hsize := congrArg Surface.elementSize h
  have hport := congrArg Surface.isPort h
  have hburst := congrArg Surface.burst h
  exact ⟨hsize, hport, hburst⟩

/-- The surfaces of an entry have the same descriptions in both states. -/
def SameSurfaces (e : Entry) (s t : State) : Prop :=
  ∀ i ∈ e.surfaces, (t.surface i).description = (s.surface i).description

section Same

variable {s t : State} {e : Entry} (h : SameSurfaces e s t)

include h

theorem SameSurfaces.elementBytes : t.elementBytes e = s.elementBytes e := by
  cases hd : e.dst with
  | none => simp only [State.elementBytes, hd]
  | some d =>
    rw [elementBytes_eq hd, elementBytes_eq hd]
    exact congrArg BitVec.toNat (items_of_description (h _ (dst_mem_surfaces hd))).1

theorem SameSurfaces.portSurface :
    (t.portSurface e).map Surface.description = (s.portSurface e).map Surface.description := by
  have hfind (u : State) : (u.portSurface e).map Surface.description =
      ((e.src.toList ++ e.dst.toList).map fun d => (u.surface d.surface).description).find? Surface.isPort := by
    unfold State.portSurface
    rw [List.find?_map, List.find?_map, Option.map_map]
    rfl
  rw [hfind, hfind]
  exact congrArg _ (List.map_congr_left fun d hd => h _ (side_mem_surfaces hd))

/-- Both states have a port side or neither has, with the same burst length. -/
theorem SameSurfaces.port :
    (s.portSurface e = none ∧ t.portSurface e = none)
      ∨ ∃ f g, s.portSurface e = some f ∧ t.portSurface e = some g ∧ g.burst = f.burst := by
  have hmap := h.portSurface
  cases hs : s.portSurface e with
  | none =>
    rw [hs, Option.map_none, Option.map_eq_none_iff] at hmap
    exact .inl ⟨rfl, hmap⟩
  | some f =>
    rw [hs, Option.map_some, Option.map_eq_some_iff] at hmap
    obtain ⟨g, hg, hfg⟩ := hmap
    exact .inr ⟨f, g, rfl, hg, (items_of_description hfg).2.2⟩

theorem SameSurfaces.unitCount : t.unitCount e = s.unitCount e := by
  rcases h.port with ⟨hs, ht⟩ | ⟨f, g, hs, ht, hfg⟩
  · rw [unitCount_memory hs, unitCount_memory ht, h.elementBytes]
  · rw [unitCount_port hs, unitCount_port ht, hfg]

theorem SameSurfaces.unitElements (p : Nat) : t.unitElements e p = s.unitElements e p := by
  refine congrArg runElements ?_
  rcases h.port with ⟨hs, ht⟩ | ⟨f, g, hs, ht, hfg⟩
  · rw [unitRuns_memory hs, unitRuns_memory ht, h.elementBytes]
  · rw [unitRuns_port hs, unitRuns_port ht, hfg]

theorem SameSurfaces.elementsBefore (p : Nat) : elementsBefore t e p = elementsBefore s e p :=
  congrArg List.sum (List.map_congr_left fun k _ => h.unitElements k)

theorem SameSurfaces.entrySound (he : EntrySound s e) : EntrySound t e := by
  obtain ⟨hcount, hfence, hfill, hmove, hsides⟩ := he
  refine ⟨hcount, hfence, hfill, hmove, fun a ha b hb => ?_⟩
  obtain ⟨hsize, hport, -⟩ := items_of_description (h _ (src_mem_surfaces ha))
  obtain ⟨hsize', hport', -⟩ := items_of_description (h _ (dst_mem_surfaces hb))
  rw [hsize, hsize', hport, hport']
  exact hsides a ha b hb

theorem SameSurfaces.fit (he : Fit s e) : Fit t e where
  entry := h.entrySound he.entry
  legal i hi := by
    have hdescribed : ∀ f g : Surface, f.description = g.description → DescriptorLegal g → DescriptorLegal f := by
      intro f g hfg hg
      have hg' : DescriptorLegal g.description := hg
      rw [← hfg] at hg'
      exact hg'
    exact hdescribed _ _ (h i hi) (he.legal i hi)

end Same

theorem SameSurfaces.of_eq {s t : State} (h : t.surfaces = s.surfaces) (e : Entry) : SameSurfaces e s t :=
  fun i _ => by rw [surface_congr h]

/-! ### The plans of a unit -/

section Plans

variable {s : State} {t : Entry} (h : Fit s t)

include h

/-- The read side of a MOVE's unit brings the bytes of its elements (R77, R83). -/
theorem readPlan_lanes (hk : t.kind = .move) (p : Nat) :
    enabledLanes (s.readPlan t p) = s.unitElements t p * s.elementBytes t ∧ ∀ b ∈ s.readPlan t p, b.write = false := by
  obtain ⟨-, -, -, hmove, hsides⟩ := h.entry
  obtain ⟨a, ha⟩ := Option.isSome_iff_exists.mp (hmove hk).1
  obtain ⟨d, hd⟩ := Option.isSome_iff_exists.mp (hmove hk).2
  obtain ⟨hsize, -⟩ := hsides a ha d hd
  rw [elementBytes_eq hd, ← hsize]
  unfold State.readPlan
  rw [ha]
  dsimp only
  split
  · obtain ⟨hes, haligned, -⟩ := h.legal _ (src_mem_surfaces ha)
    refine ⟨?_, portBursts_write _ false _⟩
    rw [portBursts_lanes hes haligned, List.length_replicate]
  · exact ⟨readRuns_lanes _ _ _, readRuns_reads _ _ _⟩

omit h in
theorem writePlan_writes (p : Nat) (elements : List (List Byte)) : ∀ b ∈ s.writePlan t p elements, b.write = true := by
  unfold State.writePlan
  split
  · simp
  · dsimp only
    split
    · exact portBursts_write _ true _
    · exact writeRuns_writes_only _ _ _ _

/-- A FILL writes every element of a unit, and a unit has one (R81). -/
theorem fillPlan_ne_nil (hk : t.kind = .fill) {p : Nat} (hp : p < s.unitCount t) {el : List Byte}
    (hel : el.length = s.elementBytes t) : s.writePlan t p (List.replicate (s.unitElements t p) el) ≠ [] := by
  have hunits := h.units (by simp [hk])
  obtain ⟨-, -, hfill, -⟩ := h.entry
  obtain ⟨hsrc, hdst⟩ := hfill hk
  obtain ⟨d, hd⟩ := Option.isSome_iff_exists.mp hdst
  have hskips (x : List Byte) : s.skips t x = false := by simp [State.skips, hsrc]
  have hpos := unitElements_pos hunits hp
  obtain ⟨n, hn⟩ : ∃ n, s.unitElements t p = n + 1 := ⟨s.unitElements t p - 1, by omega⟩
  unfold State.writePlan
  rw [hd]
  dsimp only
  split
  · intro hnil
    have hbeats := portBursts_beats (s.surface d.surface) true
      ((List.replicate (s.unitElements t p) el).filter fun x => !s.skips t x)
    rw [hnil] at hbeats
    simp [hskips, hn] at hbeats
  · have hfits := unitRuns_fit hunits hp
    cases hruns : s.unitRuns t p with
    | nil => simp [State.unitElements, hruns, runElements] at hpos
    | cons r runs =>
      obtain ⟨hlength, -⟩ := hfits r (by simp [hruns])
      have hes : 0 < (s.surface d.surface).elementSize.toNat := by
        rcases legal_element (h.legal _ (dst_mem_surfaces hd)) with he | he | he <;> omega
      refine List.append_ne_nil_of_left_ne_nil (incrementingBursts_ne_nil _ (coverBeats_ne_nil _ ?_)) _
      rw [← List.length_pos_iff, List.length_take, hn, List.replicate_succ, List.flatMap_cons, List.length_append,
        cellsOf_length, hel, elementBytes_eq hd]
      have := Nat.mul_pos hlength hes
      omega

end Plans

end Sys2Proof.Machine
end

section
/-! The accounts of the movers (O35): what each mover's counts, buffer and pulses are while its transfer runs, waits or has
ended, and which changes of the device leave an account as it is. -/

namespace Sys2Proof.Machine

open Sys2Proof.Safety

/-! ### The account of one mover -/

/-- The line of a paced transfer has given `p` pulses since its binding (R183). -/
def Pulsed (s : State) (t : Entry) (p : Nat) : Prop :=
  ∀ n ∈ t.line, (s.line n).pulsesBefore ≤ (s.line n).pulses ∧ (s.line n).pulsesOfTransfer = p

/-- The side in progress with its bursts: they go its way, and buffer or match count agree with the unit (R77, R81). -/
def SideAgrees (s : State) (m : MoverIndex) (t : Entry) (bursts : List Burst) : Prop :=
  ((s.mover m).side = .read → t.kind = .move
    ∧ (∀ b ∈ bursts, b.write = false)
    ∧ (s.mover m).buffer.length + enabledLanes bursts = s.unitElements t (s.mover m).position * s.elementBytes t)
  ∧ ((s.mover m).side = .write →
    (∀ b ∈ bursts, b.write = true) ∧ (s.mover m).matched ≤ s.unitElements t (s.mover m).position)

/-- The mover holds a transfer, at one of its units, and has counted the units before it (R81). -/
structure AtUnit (s : State) (m : MoverIndex) (t : Entry) : Prop where
  transfer : (s.mover m).transfer = some t
  kind : t.kind ≠ .fence
  fit : Fit s t
  unit : (s.mover m).position < s.unitCount t
  counted : (s.mover m).moved + (s.mover m).skipped = elementsBefore s t (s.mover m).position

/-- The account of a mover: its bursts are at one place each and only while it is in RUN, and its transfer is sound (O35). -/
structure MoverCounted (s : State) (m : MoverIndex) : Prop where
  tidy : heldBursts s m = [] ∨ (s.mover m).request = none
  quiet : (s.mover m).state ≠ .run → outstanding s m = []
  transfer : ∀ t ∈ (s.mover m).transfer, (s.mover m).state ≠ .idle ∧ t.kind ≠ .fence ∧ Fit s t ∧ ProgressSound s m t
    ∧ PulsesSound s m t

/-- A port transfer has counted B elements for each unit before its own (R82). -/
theorem AtUnit.port {s : State} {m : MoverIndex} {t : Entry} (h : AtUnit s m t) {f : Surface} (hf : s.portSurface t = some f) :
    (s.mover m).moved + (s.mover m).skipped = f.burst.toNat * (s.mover m).position := by
  rw [h.counted, elementsBefore_port (h.fit.units h.kind) hf h.unit, Nat.mul_comm]

section Stages

variable {s : State} {m : MoverIndex} {t : Entry} (h : AtUnit s m t)

include h

theorem AtUnit.running (hstate : (s.mover m).state = .run) (htidy : heldBursts s m = [] ∨ (s.mover m).request = none)
    (hpulses : Pulsed s t ((s.mover m).position + 1)) (hne : outstanding s m ≠ [])
    (hside : SideAgrees s m t (outstanding s m)) : MoverCounted s m where
  tidy := htidy
  quiet hs := absurd hstate hs
  transfer u hu := by
    obtain rfl : t = u := by simpa [h.transfer] using hu
    refine ⟨by simp [hstate], h.kind, h.fit, ⟨fun _ => ⟨h.unit, h.counted⟩, by simp [hstate], by simp [hstate],
      fun _ => ⟨hne, hside⟩⟩,
      fun n hn => ?_⟩
    obtain ⟨hle, hp⟩ := hpulses n hn
    refine ⟨hle, by simp [hstate], fun _ => hp, fun f hf => ⟨by simp [hstate], fun _ => ?_, by simp [hstate]⟩⟩
    rw [hp, h.port hf, Nat.mul_succ]

theorem AtUnit.pacing (hstate : (s.mover m).state = .pace) (hclear : outstanding s m = [])
    (hpulses : Pulsed s t (s.mover m).position) : MoverCounted s m where
  tidy := .inl (idle_of_outstanding hclear).1
  quiet _ := hclear
  transfer u hu := by
    obtain rfl : t = u := by simpa [h.transfer] using hu
    refine ⟨by simp [hstate], h.kind, h.fit,
      ⟨fun _ => ⟨h.unit, h.counted⟩, by simp [hstate], by simp [hstate], by simp [hstate]⟩, fun n hn => ?_⟩
    obtain ⟨hle, hp⟩ := hpulses n hn
    refine ⟨hle, fun _ => hp, by simp [hstate], fun f hf => ⟨fun _ => ?_, by simp [hstate], by simp [hstate]⟩⟩
    rw [hp, h.port hf]

end Stages

/-- A mover without a transfer has nothing to count. -/
theorem MoverCounted.empty {s : State} {m : MoverIndex} (ht : (s.mover m).transfer = none) (hclear : outstanding s m = []) :
    MoverCounted s m where
  tidy := .inl (idle_of_outstanding hclear).1
  quiet _ := hclear
  transfer u hu := by simp [ht] at hu

section Inverse

variable {s : State} {m : MoverIndex} {t : Entry} (h : MoverCounted s m) (ht : (s.mover m).transfer = some t)

include h ht

theorem MoverCounted.atUnit (hstate : (s.mover m).state ≠ .post) : AtUnit s m t := by
  obtain ⟨-, hkind, hfit, ⟨hunit, -⟩, -⟩ := h.transfer t (by simp [ht])
  obtain ⟨hlt, hcount⟩ := hunit hstate
  exact ⟨ht, hkind, hfit, hlt, hcount⟩

theorem MoverCounted.run_pulsed (hstate : (s.mover m).state = .run) : Pulsed s t ((s.mover m).position + 1) := by
  obtain ⟨-, -, -, -, hpulses⟩ := h.transfer t (by simp [ht])
  intro n hn
  obtain ⟨hle, -, hrun, -⟩ := hpulses n hn
  exact ⟨hle, hrun hstate⟩

theorem MoverCounted.pace_pulsed (hstate : (s.mover m).state = .pace) : Pulsed s t (s.mover m).position := by
  obtain ⟨-, -, -, -, hpulses⟩ := h.transfer t (by simp [ht])
  intro n hn
  obtain ⟨hle, hpace, -⟩ := hpulses n hn
  exact ⟨hle, hpace hstate⟩

theorem MoverCounted.side (hstate : (s.mover m).state = .run) :
    outstanding s m ≠ [] ∧ SideAgrees s m t (outstanding s m) := by
  obtain ⟨-, -, -, ⟨-, -, -, hside⟩, -⟩ := h.transfer t (by simp [ht])
  exact hside hstate

end Inverse

/-! ### What leaves an account as it is -/

/-- The account of mover `k` is the same in both states: its items, its bursts, the pulses of its line and the descriptions of
its surfaces; a burst may have passed between the arbiter's request and its grant. -/
structure AccountKept (k : MoverIndex) (s t : State) : Prop where
  items : (t.mover k).requesting none = (s.mover k).requesting none
  outstanding : outstanding t k = outstanding s k
  tidy : heldBursts t k = [] ∨ (t.mover k).request = none
  line : ∀ e ∈ (s.mover k).transfer, ∀ n ∈ e.line,
    (t.line n).pulses = (s.line n).pulses ∧ (t.line n).pulsesBefore = (s.line n).pulsesBefore
  surfaces : ∀ e ∈ (s.mover k).transfer, SameSurfaces e s t

theorem AccountKept.transfer {k : MoverIndex} {s t : State} (h : AccountKept k s t) :
    (t.mover k).transfer = (s.mover k).transfer := by
  have := congrArg Mover.transfer h.items
  exact this

theorem MoverCounted.kept {k : MoverIndex} {s t : State} (h : MoverCounted s k) (hk : AccountKept k s t) : MoverCounted t k := by
  have hstate : (t.mover k).state = (s.mover k).state := by have := congrArg Mover.state hk.items; exact this
  have hposition : (t.mover k).position = (s.mover k).position := by have := congrArg Mover.position hk.items; exact this
  have hmoved : (t.mover k).moved = (s.mover k).moved := by have := congrArg Mover.moved hk.items; exact this
  have hskipped : (t.mover k).skipped = (s.mover k).skipped := by have := congrArg Mover.skipped hk.items; exact this
  have houtcome : (t.mover k).outcome = (s.mover k).outcome := by have := congrArg Mover.outcome hk.items; exact this
  have hside : (t.mover k).side = (s.mover k).side := by have := congrArg Mover.side hk.items; exact this
  have hbuffer : (t.mover k).buffer = (s.mover k).buffer := by have := congrArg Mover.buffer hk.items; exact this
  have hmatched : (t.mover k).matched = (s.mover k).matched := by have := congrArg Mover.matched hk.items; exact this
  refine ⟨hk.tidy, fun hs => hk.outstanding.trans (h.quiet (hstate ▸ hs)), fun e he => ?_⟩
  rw [hk.transfer] at he
  obtain ⟨hidle, hkind, hfit, hprogress, hpulses⟩ := h.transfer e he
  have hsame := hk.surfaces e he
  refine ⟨hstate ▸ hidle, hkind, hsame.fit hfit, ?_, fun n hn => ?_⟩
  · simp only [ProgressSound, hstate, hposition, hmoved, hskipped, houtcome, hside, hbuffer, hmatched, hk.outstanding,
      hsame.unitCount, hsame.elementsBefore, hsame.unitElements, hsame.elementBytes]
    exact hprogress
  · obtain ⟨hline, hbefore⟩ := hk.line e he n hn
    have hp : (t.line n).pulsesOfTransfer = (s.line n).pulsesOfTransfer := by
      unfold PacingLine.pulsesOfTransfer
      rw [hline, hbefore]
    obtain ⟨hle, hpace, hrun, hport⟩ := hpulses n hn
    simp only [hp, hline, hbefore, hstate, hposition, hmoved, hskipped, houtcome]
    refine ⟨hle, hpace, hrun, fun g hg => ?_⟩
    rcases hsame.port with ⟨-, hnone⟩ | ⟨f, g', hf, hg', hburst⟩
    · simp [hnone] at hg
    · obtain rfl : g' = g := by simpa [hg'] using hg
      rw [hburst]
      exact hport f hf

/-! ### All accounts together -/

/-- Beside the accounts: held entries are fit, no two transfers in flight record one line (R65), and where the port was free at
the beginning of the event, in state `b`, a burst in progress has its requester. -/
structure Common (b s : State) : Prop where
  queue : ∀ e ∈ s.queue, Fit s e
  apart : ∀ j k, j ≠ k → ∀ a ∈ (s.mover j).transfer, ∀ c ∈ (s.mover k).transfer, ∀ n ∈ a.line, c.line ≠ some n
  fresh : b.grant = none → ∀ g ∈ s.grant, g.live = true

/-- Every account is sound. -/
def Counted (b s : State) : Prop :=
  Common b s ∧ ∀ k, MoverCounted s k

/-- Every account is sound but that of the mover at work. -/
def CountedBut (b : State) (m : MoverIndex) (s : State) : Prop :=
  Common b s ∧ ∀ k, k ≠ m → MoverCounted s k

theorem Counted.but {b s : State} (h : Counted b s) (m : MoverIndex) : CountedBut b m s :=
  ⟨h.1, fun k _ => h.2 k⟩

theorem CountedBut.with {b s : State} {m : MoverIndex} (h : CountedBut b m s) (hm : MoverCounted s m) : Counted b s := by
  refine ⟨h.1, fun k => ?_⟩
  by_cases hk : k = m
  · rw [hk]
    exact hm
  · exact h.2 k hk

theorem Common.kept {b c s t : State} (h : Common b s) (ht : ∀ k, (t.mover k).transfer = (s.mover k).transfer)
    (hq : ∀ e ∈ t.queue, Fit t e) (hf : c.grant = none → ∀ g ∈ t.grant, g.live = true) : Common c t := by
  refine ⟨hq, fun j k hjk x hx y hy => ?_, hf⟩
  rw [ht] at hx hy
  exact h.apart j k hjk x hx y hy

/-- A change that keeps every account. -/
theorem Counted.kept {b c s t : State} (h : Counted b s) (hk : ∀ k, AccountKept k s t) (hq : ∀ e ∈ t.queue, Fit t e)
    (hf : c.grant = none → ∀ g ∈ t.grant, g.live = true) : Counted c t :=
  ⟨h.1.kept (fun k => (hk k).transfer) hq hf, fun k => (h.2 k).kept (hk k)⟩

/-- A change outside movers and master port that keeps the pulses of every line and every description. -/
structure Still (s t : State) : Prop where
  movers : t.movers = s.movers
  lines : ∀ n, (t.line n).pulses = (s.line n).pulses ∧ (t.line n).pulsesBefore = (s.line n).pulsesBefore
  grant : t.grant = s.grant
  surfaces : ∀ i, (t.surface i).description = (s.surface i).description

theorem Still.of_eq {s t : State} (hm : t.movers = s.movers) (hl : t.lines = s.lines) (hg : t.grant = s.grant)
    (hs : t.surfaces = s.surfaces) : Still s t :=
  ⟨hm, fun n => by rw [line_congr hl]; exact ⟨rfl, rfl⟩, hg, fun i => by rw [surface_congr hs]⟩

theorem heldBursts_congr {s t : State} (h : t.grant = s.grant) (k : MoverIndex) : heldBursts t k = heldBursts s k := by
  unfold heldBursts
  rw [h]

theorem Still.account {s t : State} (h : Still s t) {k : MoverIndex}
    (htidy : heldBursts s k = [] ∨ (s.mover k).request = none) : AccountKept k s t where
  items := by rw [mover_congr h.movers]
  outstanding := by rw [outstanding_eq, outstanding_eq, heldBursts_congr h.grant, mover_congr h.movers]
  tidy := by rwa [heldBursts_congr h.grant, mover_congr h.movers]
  line _ _ n _ := h.lines n
  surfaces _ _ i _ := h.surfaces i

theorem Still.fit {s t : State} (h : Still s t) {e : Entry} (he : Fit s e) : Fit t e :=
  SameSurfaces.fit (fun i _ => h.surfaces i) he

theorem Counted.still {b s t : State} (h : Counted b s) (hs : Still s t) (hq : ∀ e ∈ t.queue, Fit s e) : Counted b t :=
  h.kept (fun k => hs.account (h.2 k).tidy) (fun e he => hs.fit (hq e he)) fun hb => by rw [hs.grant]; exact h.1.fresh hb

/-- A change that also keeps the queue. -/
theorem Counted.frame {b s t : State} (h : Counted b s) (hs : Still s t) (hq : t.queue = s.queue) : Counted b t :=
  h.still hs (hq ▸ h.1.queue)

/-! ### The work of one mover -/

/-- From `s` to `t` mover `m` has worked on its transfer: only its own items, its own line and the arbiter have changed. -/
structure MoverWork (m : MoverIndex) (s t : State) : Prop where
  others : ∀ k, k ≠ m → t.mover k = s.mover k
  transfer : (t.mover m).transfer = (s.mover m).transfer
  held : ∀ k, k ≠ m → heldBursts t k = heldBursts s k
  line : ∀ n, (s.mover m).transfer.bind Entry.line ≠ some n → t.line n = s.line n
  grant : t.grant = s.grant ∨ ∀ g ∈ t.grant, g.live = true
  surfaces : t.surfaces = s.surfaces
  queue : t.queue = s.queue

theorem MoverWork.refl (m : MoverIndex) (s : State) : MoverWork m s s :=
  ⟨fun _ _ => rfl, rfl, fun _ _ => rfl, fun _ _ => rfl, .inl rfl, rfl, rfl⟩

theorem MoverWork.trans {m : MoverIndex} {s t u : State} (h : MoverWork m s t) (k : MoverWork m t u) : MoverWork m s u where
  others j hj := (k.others j hj).trans (h.others j hj)
  transfer := k.transfer.trans h.transfer
  held j hj := (k.held j hj).trans (h.held j hj)
  line n hn := (k.line n (by rwa [h.transfer])).trans (h.line n hn)
  grant := k.grant.elim (fun e => h.grant.imp e.trans fun hl => e ▸ hl) .inr
  surfaces := k.surfaces.trans h.surfaces
  queue := k.queue.trans h.queue

theorem MoverWork.account {m k : MoverIndex} {s t : State} (h : MoverWork m s t) (hk : k ≠ m)
    (happart : ∀ a ∈ (s.mover m).transfer, ∀ c ∈ (s.mover k).transfer, ∀ n ∈ a.line, c.line ≠ some n)
    (htidy : heldBursts s k = [] ∨ (s.mover k).request = none) : AccountKept k s t where
  items := by rw [h.others k hk]
  outstanding := by rw [outstanding_eq, outstanding_eq, h.held k hk, h.others k hk]
  tidy := by rwa [h.held k hk, h.others k hk]
  line e he n hn := by
    have hother : (s.mover m).transfer.bind Entry.line ≠ some n := by
      intro hm
      obtain ⟨a, ha, hal⟩ := Option.bind_eq_some_iff.mp hm
      exact happart a ha e he n hal hn
    rw [h.line n hother]
    exact ⟨rfl, rfl⟩
  surfaces e _ := .of_eq h.surfaces e

theorem CountedBut.work {b s t : State} {m : MoverIndex} (h : CountedBut b m s) (hw : MoverWork m s t) : CountedBut b m t := by
  obtain ⟨⟨hqueue, hapart, hfresh⟩, hothers⟩ := h
  have htransfer (j : MoverIndex) : (t.mover j).transfer = (s.mover j).transfer := by
    by_cases hj : j = m
    · rw [hj, hw.transfer]
    · rw [hw.others j hj]
  refine ⟨Common.kept ⟨hqueue, hapart, hfresh⟩ htransfer (fun e he => ?_) fun hb => ?_, fun k hk => ?_⟩
  · exact (SameSurfaces.of_eq hw.surfaces e).fit (hqueue e (hw.queue ▸ he))
  · rcases hw.grant with hg | hg
    · rw [hg]
      exact hfresh hb
    · exact hg
  · exact (hothers k hk).kept (hw.account hk (hapart m k (Ne.symm hk)) (hothers k hk).tidy)

/-- A mover gives up its transfer or takes one whose line no other transfer records. -/
theorem CountedBut.setMover {b s : State} {m : MoverIndex} (h : CountedBut b m s) (v : Mover)
    (hv : ∀ k, k ≠ m → ∀ a ∈ v.transfer, ∀ c ∈ (s.mover k).transfer, ∀ n ∈ a.line, c.line ≠ some n) :
    CountedBut b m (s.setMover m v) := by
  obtain ⟨⟨hqueue, hapart, hfresh⟩, hothers⟩ := h
  refine ⟨⟨fun e he => (SameSurfaces.of_eq (by rfl) e).fit (hqueue e he), fun j k hjk a ha c hc n hn => ?_, hfresh⟩,
    fun k hk => ?_⟩
  · by_cases hj : j = m
    · subst hj
      rw [setMover_mover] at ha
      rw [setMover_mover_ne s (Ne.symm hjk)] at hc
      exact hv k (Ne.symm hjk) a ha c hc n hn
    · rw [setMover_mover_ne s hj] at ha
      by_cases hkm : k = m
      · subst hkm
        rw [setMover_mover] at hc
        intro hcn
        exact hv j hj c hc a ha n hcn hn
      · rw [setMover_mover_ne s hkm] at hc
        exact hapart j k hjk a ha c hc n hn
  · have hkm := setMover_mover_ne s hk v
    refine (hothers k hk).kept ⟨by rw [hkm], by rw [outstanding_eq, outstanding_eq, hkm]; rfl,
      by rw [hkm]; exact (hothers k hk).tidy,
      fun _ _ _ _ => ⟨rfl, rfl⟩, fun e _ => .of_eq rfl e⟩

end Sys2Proof.Machine
end

section
/-! The accounts of the movers through the operations of one mover (O35): a unit that starts, a line that binds, admits, waits
and goes on, the end of a side, of a unit and of a transfer. -/

namespace Sys2Proof.Machine

open Sys2Proof.Safety

/-! ### What the operations of a mover leave alone -/

section Work

variable (s : State) (m : MoverIndex)

theorem setMover_work {v : Mover} (h : v.transfer = (s.mover m).transfer) : MoverWork m s (s.setMover m v) where
  others _ hk := setMover_mover_ne s hk v
  transfer := by rw [setMover_mover, h]
  held _ _ := rfl
  line _ _ := rfl
  grant := .inl rfl
  surfaces := rfl
  queue := rfl

/-- The mover's own line changes. -/
theorem setLine_work {n : LineIndex} (h : (s.mover m).transfer.bind Entry.line = some n) (v : PacingLine) :
    MoverWork m s (s.setLine n v) where
  others _ _ := rfl
  transfer := rfl
  held _ _ := rfl
  line k hk := setLine_line_ne s (fun hkn => hk (by rw [hkn, h])) v
  grant := .inl rfl
  surfaces := rfl
  queue := rfl

theorem requestBurst_work (b : Burst) : MoverWork m s (s.requestBurst (.mover m) b) := by
  unfold State.requestBurst
  cases hg : s.grant with
  | none =>
    refine ⟨fun _ _ => rfl, rfl, fun k hk => ?_, fun _ _ => rfl, .inr ?_, rfl, rfl⟩
    · simp [heldBursts, State.grantTo, hg, Ne.symm hk]
    · intro g hgrant
      obtain rfl : { owner := .mover m, live := true, burst := b } = g := by simpa [State.grantTo] using hgrant
      rfl
  | some g => exact setMover_work s m rfl

theorem launch_work (bursts : List Burst) : MoverWork m s (s.launch m bursts) := by
  cases bursts with
  | nil => exact setMover_work s m rfl
  | cons b bs => exact (setMover_work s m (v := (s.mover m).queued bs) rfl).trans (requestBurst_work _ m b)

theorem startUnit_work : MoverWork m s (s.startUnit m) := by
  unfold State.startUnit
  dsimp only
  split
  · exact .refl m s
  · split
    · exact (setMover_work s m (v := (s.mover m).beginUnit .write) rfl).trans (launch_work _ m _)
    · exact (setMover_work s m (v := (s.mover m).beginUnit .read) rfl).trans (launch_work _ m _)

theorem finish_work (o : Outcome) (f : Option FaultItem) : MoverWork m s (s.finish m o f) := by
  have h : MoverWork m s (s.setMover m ((s.mover m).ended o f)) := setMover_work s m rfl
  unfold State.finish
  dsimp only
  split
  · exact h
  · rename_i n hn
    exact h.trans (setLine_work _ m (by rw [h.transfer, hn]) _)

variable {n : LineIndex} (hn : (s.mover m).transfer.bind Entry.line = some n)

include hn

theorem admitBurst_work : MoverWork m s (s.admitBurst n m) :=
  ((setLine_work s m hn (s.line n).admitting).trans
    (setMover_work _ m (v := (s.mover m).inState .run) rfl)).trans (startUnit_work _ m)

theorem waitIn_work (st : LineState) : MoverWork m s (s.waitIn n m st) :=
  (setLine_work s m hn _).trans (setMover_work _ m rfl)

theorem bind_work : MoverWork m s (s.bind n m) := by
  unfold State.bind
  dsimp only
  split
  · exact (setLine_work s m hn _).trans (admitBurst_work _ m (by exact hn))
  · exact (setLine_work s m hn _).trans (waitIn_work _ m (by exact hn) _)

theorem burstContinues_work : MoverWork m s (s.burstContinues n m) := by
  unfold State.burstContinues
  dsimp only
  refine (setLine_work s m hn (s.line n).burstOver).trans ?_
  split
  · exact admitBurst_work _ m (by exact hn)
  all_goals exact waitIn_work _ m (by exact hn) _

end Work

/-! ### A side that starts -/

theorem launch_tidy {s : State} {m : MoverIndex} (bursts : List Burst) (h : heldBursts s m = [])
    (hr : (s.mover m).request = none) :
    heldBursts (s.launch m bursts) m = [] ∨ ((s.launch m bursts).mover m).request = none := by
  cases bursts with
  | nil => exact .inl h
  | cons b bs =>
    unfold State.launch State.requestBurst
    dsimp only
    cases hg : (s.setMover m ((s.mover m).queued bs)).grant with
    | none =>
      refine .inr ?_
      show ((s.setMover m ((s.mover m).queued bs)).mover m).request = none
      rw [setMover_mover]
      exact hr
    | some g => exact .inl h

theorem AtUnit.of_items {s t : State} {m : MoverIndex} {e : Entry} (h : AtUnit s m e) (hs : t.surfaces = s.surfaces)
    (htransfer : (t.mover m).transfer = (s.mover m).transfer) (hposition : (t.mover m).position = (s.mover m).position)
    (hmoved : (t.mover m).moved = (s.mover m).moved) (hskipped : (t.mover m).skipped = (s.mover m).skipped) :
    AtUnit t m e := by
  have hsame := SameSurfaces.of_eq hs e
  refine ⟨htransfer.trans h.transfer, h.kind, hsame.fit h.fit, ?_, ?_⟩
  · rw [hposition, hsame.unitCount]
    exact h.unit
  · rw [hmoved, hskipped, hposition, hsame.elementsBefore]
    exact h.counted

theorem Pulsed.of_lines {s t : State} {e : Entry} {p : Nat} (h : Pulsed s e p) (hl : t.lines = s.lines) : Pulsed t e p := by
  intro n hn
  rw [line_congr hl]
  exact h n hn

/-- A side starts, or goes on, with bursts that agree with its unit (R77, R88). -/
theorem launch_counted {s : State} {m : MoverIndex} {t : Entry} (h : AtUnit s m t) {bursts : List Burst}
    (hheld : heldBursts s m = []) (hrequest : (s.mover m).request = none) (hstate : (s.mover m).state = .run)
    (hpulses : Pulsed s t ((s.mover m).position + 1)) (hne : bursts ≠ []) (hside : SideAgrees s m t bursts) :
    MoverCounted (s.launch m bursts) m := by
  have hsame := SameSurfaces.of_eq (launch_work s m bursts).surfaces t
  obtain ⟨q, hq⟩ := launch_mover s m bursts
  have hout := launch_outstanding bursts hheld hrequest
  have hunit : AtUnit (s.launch m bursts) m t :=
    h.of_items (launch_work s m bursts).surfaces (by rw [hq]; rfl) (by rw [hq]; rfl) (by rw [hq]; rfl) (by rw [hq]; rfl)
  refine hunit.running (by rw [hq]; exact hstate) (launch_tidy bursts hheld hrequest) ?_ (by rwa [hout]) ?_
  · rw [hq]
    exact hpulses.of_lines (launch_lines s m bursts)
  · unfold SideAgrees
    rw [hout, hq, hsame.unitElements, hsame.elementBytes]
    exact hside

theorem move_of_kind {t : Entry} (h : t.kind ≠ .fence) (hf : t.kind ≠ .fill) : t.kind = .move := by
  cases hk : t.kind with
  | move => rfl
  | fill => exact absurd hk hf
  | fence => exact absurd hk h

/-- The plan of a unit has bursts, and they agree with the unit's first side (R74, R79). -/
theorem startPlan_agrees {s : State} {m : MoverIndex} {t : Entry} (h : AtUnit s m t) :
    startPlan s t (s.mover m).position ≠ []
      ∧ SideAgrees (s.setMover m ((s.mover m).beginUnit (startSide t))) m t (startPlan s t (s.mover m).position) := by
  have hunits := h.fit.units h.kind
  have hpos := unitElements_pos hunits h.unit
  have hsize : 0 < s.elementBytes t := by rcases hunits.element with he | he | he <;> omega
  unfold SideAgrees
  rw [setMover_mover]
  by_cases hk : t.kind = .fill
  · have hplan : startPlan s t (s.mover m).position = s.writePlan t (s.mover m).position _ := if_pos hk
    have hside : startSide t = .write := if_pos hk
    rw [hplan]
    refine ⟨fillPlan_ne_nil h.fit hk h.unit (by simp [leastBytes]), fun hr => ?_,
      fun _ => ⟨writePlan_writes _ _, Nat.zero_le _⟩⟩
    simp [Mover.beginUnit, hside] at hr
  · have hmove := move_of_kind h.kind hk
    have hplan : startPlan s t (s.mover m).position = s.readPlan t (s.mover m).position := if_neg hk
    have hside : startSide t = .read := if_neg hk
    obtain ⟨hlanes, hreads⟩ := readPlan_lanes h.fit hmove (s.mover m).position
    rw [hplan]
    refine ⟨fun hnil => ?_, fun _ => ⟨hmove, hreads, ?_⟩, fun hw => ?_⟩
    · rw [hnil] at hlanes
      have := Nat.mul_pos hpos hsize
      simp [enabledLanes] at hlanes
      omega
    · rw [hlanes]
      exact Nat.zero_add _
    · simp [Mover.beginUnit, hside] at hw

/-- A unit starts at a boundary, with the pulse that admitted it counted (R74, R102). -/
theorem startUnit_counted {s : State} {m : MoverIndex} {t : Entry} (h : AtUnit s m t) (hclear : outstanding s m = [])
    (hstate : (s.mover m).state = .run) (hpulses : Pulsed s t ((s.mover m).position + 1)) :
    MoverCounted (s.startUnit m) m := by
  obtain ⟨hheld, hrequest, -⟩ := idle_of_outstanding hclear
  obtain ⟨hne, hagrees⟩ := startPlan_agrees h
  rw [startUnit_eq h.transfer]
  have hunit : AtUnit (s.setMover m ((s.mover m).beginUnit (startSide t))) m t :=
    h.of_items rfl (by rw [setMover_mover]; rfl) (by rw [setMover_mover]; rfl) (by rw [setMover_mover]; rfl)
      (by rw [setMover_mover]; rfl)
  refine launch_counted hunit hheld ?_ ?_ ?_ hne hagrees <;> rw [setMover_mover]
  · exact hrequest
  · exact hstate
  · exact hpulses

/-! ### The line of a transfer -/

/-- The pulses of a line that has changed but for its pulses. -/
theorem Pulsed.setLine {s : State} {t : Entry} {n : LineIndex} {p : Nat} (h : Pulsed s t p) {v : PacingLine}
    (hp : v.pulses = (s.line n).pulses) (hb : v.pulsesBefore = (s.line n).pulsesBefore) : Pulsed (s.setLine n v) t p := by
  intro k hk
  obtain ⟨hle, hcount⟩ := h k hk
  by_cases hkn : k = n
  · subst hkn
    unfold PacingLine.pulsesOfTransfer at hcount ⊢
    rw [setLine_line, hp, hb]
    exact ⟨hle, hcount⟩
  · rw [setLine_line_ne s hkn]
    exact ⟨hle, hcount⟩

section Paced

variable {s : State} {m : MoverIndex} {t : Entry} {n : LineIndex} (h : AtUnit s m t) (hclear : outstanding s m = [])

include h hclear

/-- A line admits the unit at which its mover stands: one more pulse (R102). -/
theorem admitBurst_counted (hn : t.line = some n) (hpulses : Pulsed s t (s.mover m).position) :
    MoverCounted (s.admitBurst n m) m := by
  have hset := setMover_mover (s.setLine n (s.line n).admitting) m ((s.mover m).inState .run)
  refine startUnit_counted (t := t) (h.of_items rfl ?_ ?_ ?_ ?_) ?_ ?_ ?_
  case refine_5 =>
    rw [outstanding_eq] at hclear ⊢
    refine Eq.trans ?_ hclear
    rw [show (s.setLine n (s.line n).admitting).mover m = s.mover m from rfl, hset]
    rfl
  case refine_7 =>
    rw [show (s.setLine n (s.line n).admitting).mover m = s.mover m from rfl, hset]
    intro k hk
    obtain rfl : n = k := by simpa [hn] using hk
    obtain ⟨hle, hcount⟩ := hpulses n hk
    unfold PacingLine.pulsesOfTransfer at hcount ⊢
    rw [setMover_line, setLine_line]
    show (s.line n).pulsesBefore ≤ (s.line n).pulses + 1
      ∧ (s.line n).pulses + 1 - (s.line n).pulsesBefore = (s.mover m).position + 1
    omega
  all_goals
    rw [show (s.setLine n (s.line n).admitting).mover m = s.mover m from rfl, hset]
    rfl

/-- A mover in PACE stands at the unit that its line is to admit (R73, R103). -/
theorem waitIn_counted (st : LineState) (hpulses : Pulsed s t (s.mover m).position) : MoverCounted (s.waitIn n m st) m := by
  have hset : (s.waitIn n m st).mover m = (s.mover m).inState .pace := setMover_mover _ m _
  refine AtUnit.pacing (t := t) (h.of_items rfl (by rw [hset]; rfl) (by rw [hset]; rfl) (by rw [hset]; rfl) (by rw [hset]; rfl))
    (by rw [hset]; rfl) ?_ ?_
  · rw [outstanding_eq] at hclear ⊢
    rw [hset]
    exact hclear
  · rw [hset]
    exact hpulses.setLine rfl rfl

/-- The mover with its line changed. -/
theorem AtUnit.setLine (v : PacingLine) : AtUnit (s.setLine n v) m t ∧ outstanding (s.setLine n v) m = [] :=
  ⟨h.of_items rfl rfl rfl rfl rfl, hclear⟩

/-- A burst end after which the transfer goes on (R103, R104). -/
theorem burstContinues_counted (hn : t.line = some n) (hpulses : Pulsed s t (s.mover m).position) :
    MoverCounted (s.burstContinues n m) m := by
  obtain ⟨hunit, hout⟩ := h.setLine (n := n) hclear (s.line n).burstOver
  have hover : Pulsed (s.setLine n (s.line n).burstOver) t (s.mover m).position := hpulses.setLine rfl rfl
  unfold State.burstContinues
  dsimp only
  split
  · exact admitBurst_counted hunit hout hn hover
  all_goals exact waitIn_counted hunit hout _ hover

/-- A binding counts the pulses from here (R101, R183). -/
theorem bind_counted (hn : t.line = some n) (hzero : (s.mover m).position = 0) : MoverCounted (s.bind n m) m := by
  have hfrom (v : PacingLine) (hv : v.pulsesBefore = v.pulses) : Pulsed (s.setLine n v) t (s.mover m).position := by
    intro k hk
    obtain rfl : n = k := by simpa [hn] using hk
    rw [setLine_line, hzero]
    exact ⟨hv.le, by rw [PacingLine.pulsesOfTransfer, hv, Nat.sub_self]⟩
  unfold State.bind
  dsimp only
  split
  · obtain ⟨hunit, hout⟩ := h.setLine (n := n) hclear ((s.line n).bindTo m)
    exact admitBurst_counted hunit hout hn (hfrom _ rfl)
  · obtain ⟨hunit, hout⟩ := h.setLine (n := n) hclear ((s.line n).bindTo m).loadTimer
    exact waitIn_counted hunit hout _ (hfrom _ rfl)

end Paced

/-! ### The end of a transfer -/

/-- The counts and pulses with which a transfer ends, by its outcome: DONE with all units, SHORT, TIMEOUT and ABORTED before one,
FAULTED in one (R90, R92, R183). -/
inductive EndsWith (s : State) (t : Entry) (counted : Nat) : Outcome → Prop where
  | done : counted = t.effective → Pulsed s t (s.unitCount t) → EndsWith s t counted .done
  | cut {o : Outcome} {q : Nat} : o = .short ∨ o = .timeout ∨ o = .aborted → q < s.unitCount t →
      counted = elementsBefore s t q → Pulsed s t q → EndsWith s t counted o
  | faulted {q : Nat} : q < s.unitCount t → counted = elementsBefore s t q → Pulsed s t (q + 1) →
      EndsWith s t counted .faulted

/-- The units before one are not all elements. -/
theorem elementsBefore_lt {s : State} {e : Entry} (h : UnitsFit s e) {q : Nat} (hq : q < s.unitCount e) :
    elementsBefore s e q < e.effective := by
  obtain ⟨hx, hy, hz⟩ := size_pos_of_unit h hq
  have heff : e.effective ≠ 0 := (Nat.mul_pos (Nat.mul_pos hx hy) hz).ne'
  have hmono := elementsBefore_mono s e (show q + 1 ≤ s.unitCount e from hq)
  rw [elementsBefore_succ, elementsBefore_unitCount h heff] at hmono
  have := unitElements_pos h hq
  omega

/-- What an ending says of the counts. -/
theorem EndsWith.counts {s : State} {t : Entry} {counted : Nat} {o : Outcome} (hu : UnitsFit s t) (h : EndsWith s t counted o) :
    (o = .done → counted = t.effective) ∧ (o ≠ .done → counted < t.effective) := by
  cases h with
  | done hc _ => exact ⟨fun _ => hc, fun h => absurd rfl h⟩
  | cut ho hq hc _ =>
    refine ⟨fun hd => ?_, fun _ => hc ▸ elementsBefore_lt hu hq⟩
    rcases ho with rfl | rfl | rfl <;> cases hd
  | faulted hq hc _ => exact ⟨nofun, fun _ => hc ▸ elementsBefore_lt hu hq⟩

/-- What an ending says of the pulses (R183). -/
theorem EndsWith.pulses {s : State} {t : Entry} {counted : Nat} {o : Outcome} (hu : UnitsFit s t)
    (h : EndsWith s t counted o) {n : LineIndex} (hn : t.line = some n) :
    (s.line n).pulsesBefore ≤ (s.line n).pulses ∧ ∀ f ∈ s.portSurface t,
      (o = .done → counted = t.effective
        ∧ (s.line n).pulsesOfTransfer = (t.effective + f.burst.toNat - 1) / f.burst.toNat)
      ∧ (o = .short ∨ o = .timeout ∨ o = .aborted → counted = f.burst.toNat * (s.line n).pulsesOfTransfer)
      ∧ (o = .faulted → 1 ≤ (s.line n).pulsesOfTransfer
        ∧ counted = f.burst.toNat * ((s.line n).pulsesOfTransfer - 1)) := by
  cases h with
  | done hc hp =>
    obtain ⟨hle, hcount⟩ := hp n hn
    refine ⟨hle, fun f hf => ⟨fun _ => ⟨hc, ?_⟩, by simp, nofun⟩⟩
    rw [hcount, unitCount_port hf]
    rfl
  | @cut o q ho hq hc hp =>
    obtain ⟨hle, hcount⟩ := hp n hn
    refine ⟨hle, fun f hf => ⟨fun hd => ?_, fun _ => ?_, fun hd => ?_⟩⟩
    · rcases ho with rfl | rfl | rfl <;> cases hd
    · rw [hcount, hc, elementsBefore_port hu hf hq, Nat.mul_comm]
    · rcases ho with rfl | rfl | rfl <;> cases hd
  | @faulted q hq hc hp =>
    obtain ⟨hle, hcount⟩ := hp n hn
    refine ⟨hle, fun f hf => ⟨nofun, by simp, fun _ => ⟨by omega, ?_⟩⟩⟩
    rw [hcount, hc, elementsBefore_port hu hf hq, Nat.mul_comm, Nat.add_sub_cancel]

theorem finish_mover (s : State) (m : MoverIndex) (o : Outcome) (f : Option FaultItem) :
    (s.finish m o f).mover m = (s.mover m).ended o f := by
  unfold State.finish
  dsimp only
  split
  · exact setMover_mover s m _
  · exact setMover_mover s m _

theorem finish_grant (s : State) (m : MoverIndex) (o : Outcome) (f : Option FaultItem) : (s.finish m o f).grant = s.grant := by
  unfold State.finish
  dsimp only
  split <;> rfl

/-- A line that is released keeps its pulses (R113, R183). -/
theorem finish_pulses (s : State) (m : MoverIndex) (o : Outcome) (f : Option FaultItem) (n : LineIndex) :
    ((s.finish m o f).line n).pulses = (s.line n).pulses
      ∧ ((s.finish m o f).line n).pulsesBefore = (s.line n).pulsesBefore := by
  unfold State.finish
  dsimp only
  split
  · exact ⟨rfl, rfl⟩
  · rename_i k _
    unfold State.idleLine
    by_cases hn : n = k
    · subst hn
      rw [setLine_line]
      exact ⟨rfl, rfl⟩
    · rw [setLine_line_ne _ hn]
      exact ⟨rfl, rfl⟩

/-- A mover whose transfer ends (R92). -/
theorem finish_counted {s : State} {m : MoverIndex} {t : Entry} {o : Outcome} (f : Option FaultItem)
    (ht : (s.mover m).transfer = some t) (hkind : t.kind ≠ .fence) (hfit : Fit s t) (hheld : heldBursts s m = [])
    (hrequest : (s.mover m).request = none) (h : EndsWith s t ((s.mover m).moved + (s.mover m).skipped) o) :
    MoverCounted (s.finish m o f) m := by
  have hmover := finish_mover s m o f
  have hsame := SameSurfaces.of_eq (finish_work s m o f).surfaces t
  have hheld' : heldBursts (s.finish m o f) m = [] := (heldBursts_congr (finish_grant s m o f) m).trans hheld
  have hunits := hfit.units hkind
  refine ⟨.inl hheld', fun _ => ?_, fun u hu => ?_⟩
  · rw [outstanding_eq, hheld', hmover]
    simp [Mover.ended, hrequest]
  · obtain rfl : t = u := by simpa [hmover, Mover.ended, ht] using hu
    obtain ⟨hdone, hcut⟩ := h.counts hunits
    rw [ProgressSound, PulsesSound, hmover]
    refine ⟨nofun, hkind, hsame.fit hfit, ⟨fun hs => absurd rfl hs, fun _ ho => ?_, fun _ ho => ?_, nofun⟩, fun n hn => ?_⟩
    · exact hdone (Option.some.inj ho)
    · exact hcut fun he => ho (congrArg some he)
    · obtain ⟨hp, hb⟩ := finish_pulses s m o f n
      obtain ⟨hle, hpulses⟩ := h.pulses hunits hn
      unfold PacingLine.pulsesOfTransfer at hpulses ⊢
      rw [hp, hb]
      refine ⟨hle, nofun, nofun, fun g hg => ⟨nofun, nofun, fun o' ho' _ => ?_⟩⟩
      obtain rfl : o = o' := by simpa [Mover.ended] using ho'
      rcases hsame.port with ⟨-, hnone⟩ | ⟨f', g', hf, hg', hburst⟩
      · simp [hnone] at hg
      · obtain rfl : g' = g := by simpa [hg'] using hg
        rw [hburst]
        exact hpulses f' hf

end Sys2Proof.Machine
end

section
/-! The accounts of the movers through the events of the engine (O35): posting, issue, the end of a side and of a unit, beat
answers, acceptances and stops. -/

namespace Sys2Proof.Machine

open Sys2Proof.Safety

/-! ### Changes outside the movers -/

theorem Still.trans {s t u : State} (h : Still s t) (k : Still t u) : Still s u :=
  ⟨k.movers.trans h.movers, fun n => ⟨(k.lines n).1.trans (h.lines n).1, (k.lines n).2.trans (h.lines n).2⟩,
    k.grant.trans h.grant, fun i => (k.surfaces i).trans (h.surfaces i)⟩

section StillOps

variable (s : State)

theorem raiseIf_still (b : Bool) (c : Cause) : Still s (s.raiseIf b c) := by
  obtain ⟨_, h⟩ := raiseIf_causes_only s b c
  rw [h]
  exact .of_eq rfl rfl rfl rfl

theorem appendRecord_still (r : Completion) : Still s (s.appendRecord r) := by
  obtain ⟨_, h⟩ := appendRecord_only s r
  rw [h]
  exact .of_eq rfl rfl rfl rfl

theorem removeHead_still : Still s s.removeHead := by
  obtain ⟨_, h⟩ := removeHead_only s
  rw [h]
  exact .of_eq rfl rfl rfl rfl

theorem returnRefs_still (e : Entry) : Still s (s.returnRefs e) := by
  have hdescription (i : SurfaceIndex) : ((s.returnRefs e).surface i).description = (s.surface i).description := by
    rw [returnRefs_surface]
    rfl
  obtain ⟨_, _, _, h⟩ := returnRefs_refsOnly s e
  exact ⟨by rw [h], fun _ => by rw [h]; exact ⟨rfl, rfl⟩, by rw [h], hdescription⟩

theorem addRefs_still (e : Entry) : Still s (s.addRefs e) := by
  have hdescription (i : SurfaceIndex) : ((s.addRefs e).surface i).description = (s.surface i).description := by
    rw [addRefs_surface]
    split <;> rfl
  obtain ⟨_, h⟩ := addRefs_only s e
  exact ⟨by rw [h], fun _ => by rw [h]; exact ⟨rfl, rfl⟩, by rw [h], hdescription⟩

theorem captureFault_still (r : FaultRecord) : Still s (s.captureFault r) := by
  unfold State.captureFault
  split <;> exact .of_eq rfl rfl rfl rfl

end StillOps

/-! ### Posting and issue -/

section Posters

variable {b s : State}

/-- A mover that posts is without a transfer again (R94). -/
theorem serveMover_counted (h : Counted b s) (m : MoverIndex) : Counted b (s.serveMover m) := by
  unfold State.serveMover
  dsimp only
  split
  · rename_i t o _ _
    split
    · rename_i hpost
      generalize hr : moverRecord m (s.mover m) t o = r
      have hstill := appendRecord_still s r
      have happended : Counted b (s.appendRecord r) := by
        refine h.frame hstill ?_
        obtain ⟨_, hq⟩ := appendRecord_only s r
        rw [hq]
      have hclear : outstanding s m = [] := (h.2 m).quiet (by simp [hpost.1])
      have hheld : heldBursts ((s.appendRecord r).setMover m Mover.idle) m = [] :=
        (heldBursts_congr hstill.grant m).trans (idle_of_outstanding hclear).1
      refine Counted.frame (((happended.but m).setMover Mover.idle (by simp [Mover.idle])).with (.empty ?_ ?_))
        (returnRefs_still _ t) (returnRefs_queue _ t)
      · rw [setMover_mover]
        rfl
      · rw [outstanding_eq, hheld, setMover_mover]
        rfl
    · exact h
  · exact h

/-- The dispatcher reports its head. -/
theorem report_counted (h : Counted b s) (e : Entry) (o : Outcome) : Counted b (s.report e o) := by
  obtain ⟨hqueue, -⟩ := report_frame s e o
  refine h.still (((appendRecord_still s _).trans (removeHead_still _)).trans (returnRefs_still _ e)) fun x hx => ?_
  rw [hqueue] at hx
  exact h.1.queue x (List.mem_of_mem_tail hx)

/-- What the dispatcher checks before an issue (Table 3-2). -/
theorem decision_issue_checks {e : Entry} {m : MoverIndex} (h : s.decision e = .issue m) :
    e.kind ≠ .fence ∧ e.isEmpty = false ∧ s.inFlight.any e.sharesLine = false := by
  unfold State.decision at h
  repeat' split at h
  all_goals simp_all

theorem mem_inFlight {k : MoverIndex} {c : Entry} (hc : c ∈ (s.mover k).transfer) : c ∈ s.inFlight := by
  unfold State.inFlight
  rw [Option.mem_def] at hc
  fin_cases k
  · simp [show (s.mover 0).transfer = some c from hc]
  · simp [show (s.mover 1).transfer = some c from hc]

/-- The items of a mover that has just taken a transfer. -/
theorem take_atUnit {e : Entry} {m : MoverIndex} (ht : s.mover m = Mover.take e) (hkind : e.kind ≠ .fence) (hfit : Fit s e)
    (hsize : e.effective ≠ 0) : AtUnit s m e where
  transfer := by rw [ht]; rfl
  kind := hkind
  fit := hfit
  unit := by
    rw [ht]
    exact unitCount_pos (hfit.units hkind) hsize
  counted := by
    rw [ht]
    rfl

/-- The head is issued (R63, R66). -/
theorem issue_counted (h : Counted b s) {e : Entry} {q : List Entry} (hq : s.queue = e :: q) {m : MoverIndex}
    (hd : s.decision e = .issue m) : Counted b (s.issue e m) := by
  obtain ⟨hkind, hempty, hlines⟩ := decision_issue_checks hd
  have hidle := decision_issue_idle hd
  have hstill := removeHead_still s
  have hremoved : Counted b s.removeHead := by
    refine h.still hstill fun x hx => h.1.queue x ?_
    obtain ⟨_, hr⟩ := removeHead_only s
    rw [hr] at hx
    exact List.mem_of_mem_tail hx
  have hbut := (hremoved.but m).setMover (Mover.take e) fun k _ a ha c hc n hn hcn => by
    obtain rfl : e = a := by simpa [Mover.take] using ha
    rw [mover_congr hstill.movers] at hc
    have hshare := List.any_eq_false.mp hlines c (mem_inFlight hc)
    simp [Entry.sharesLine, Option.mem_def.mp hn, hcn] at hshare
  have hheld : heldBursts s m = [] := (idle_of_outstanding ((h.2 m).quiet (by simp [hidle]))).1
  have hclear : outstanding (s.removeHead.setMover m (Mover.take e)) m = [] := by
    rw [outstanding_eq, setMover_mover]
    exact congrArg (· ++ [] ++ []) ((heldBursts_congr hstill.grant m).trans hheld)
  have hfit : Fit (s.removeHead.setMover m (Mover.take e)) e :=
    (SameSurfaces.of_eq (by rfl) e).fit (hstill.fit (h.1.queue e (by simp [hq])))
  have hsize : e.effective ≠ 0 := by simpa [Entry.isEmpty, hkind] using hempty
  have hunit := take_atUnit (m := m) (setMover_mover s.removeHead m (Mover.take e)) hkind hfit hsize
  unfold State.issue
  dsimp only
  split
  · next hline =>
    refine (hbut.work (startUnit_work _ m)).with (startUnit_counted hunit hclear ?_ ?_)
    · rw [setMover_mover]
      simp [Mover.take, hline]
    · intro n hn
      simp [hline] at hn
  · next n hline =>
    refine (hbut.work (bind_work _ m ?_)).with (bind_counted hunit hclear hline ?_)
    · rw [setMover_mover]
      exact hline
    · rw [setMover_mover]
      rfl

theorem examine_counted (h : Counted b s) : Counted b s.examine :=
  examineHead_keeps (Counted b) (fun _ e _ o h _ _ _ _ => report_counted h e o)
    (fun _ _ _ _ h _ hq hd => issue_counted h hq hd)
    (fun _ _ _ h _ _ _ => h.frame (.of_eq rfl rfl rfl rfl) rfl) _ s h

theorem settle_counted (h : Counted b s) : Counted b s.settle :=
  examine_counted (serveMover_counted (serveMover_counted h 0) 1)

theorem examineIf_counted (h : Counted b s) (wasEmpty : Bool) : Counted b (s.examineIf wasEmpty) := by
  cases wasEmpty
  · exact h
  · exact examine_counted h

end Posters

/-! ### The end of a unit and of a side -/

section Units

variable {b s : State} {m : MoverIndex} {t : Entry}

/-- A transfer that ends, and the event's postings (R92, R121). -/
theorem endTransfer_counted (h : CountedBut b m s) {o : Outcome} (f : Option FaultItem) (ht : (s.mover m).transfer = some t)
    (hkind : t.kind ≠ .fence) (hfit : Fit s t) (hheld : heldBursts s m = []) (hrequest : (s.mover m).request = none)
    (hends : EndsWith s t ((s.mover m).moved + (s.mover m).skipped) o) : Counted b (s.endTransfer m o f) :=
  settle_counted ((h.work (finish_work s m o f)).with (finish_counted f ht hkind hfit hheld hrequest hends))

/-- A unit completes: its elements are counted, and the transfer ends or goes on (R81, R86, R87, R105). -/
theorem unitComplete_counted (h : CountedBut b m s) (hu : AtUnit s m t) (hclear : outstanding s m = [])
    (hstate : (s.mover m).state = .run) (hpulses : Pulsed s t ((s.mover m).position + 1))
    (hmatched : (s.mover m).matched ≤ s.unitElements t (s.mover m).position) : Counted b (s.unitComplete m) := by
  have hunits := hu.fit.units hu.kind
  generalize hv : (s.mover m).counted (s.unitElements t (s.mover m).position) = v
  have hcounted : v.moved + v.skipped = elementsBefore s t ((s.mover m).position + 1) := by
    rw [← hv, elementsBefore_succ, ← hu.counted]
    simp only [Mover.counted]
    omega
  have htransfer : v.transfer = some t := by rw [← hv]; exact hu.transfer
  have hposition : v.position = (s.mover m).position := by rw [← hv]; rfl
  have hrun : v.state = .run := by rw [← hv]; exact hstate
  obtain ⟨hheld, hrequest, hbursts⟩ := idle_of_outstanding hclear
  have hrequest' : v.request = none := by rw [← hv]; exact hrequest
  have hbursts' : v.bursts = [] := by rw [← hv]; exact hbursts
  have hbut (w : Mover) (hw : w.transfer = some t) : CountedBut b m (s.setMover m w) :=
    h.work (setMover_work s m (hw.trans hu.transfer.symm))
  have hfit (w : Mover) : Fit (s.setMover m w) t := (SameSurfaces.of_eq (by rfl) t).fit hu.fit
  have hends {o : Outcome} (ho : EndsWith (s.setMover m v) t (v.moved + v.skipped) o) :
      Counted b ((s.setMover m v).endTransfer m o none) :=
    endTransfer_counted (hbut v htransfer) none (by rw [setMover_mover, htransfer]) hu.kind (hfit v) hheld
      (by rw [setMover_mover, hrequest']) (by rw [setMover_mover]; exact ho)
  have hnext (hlt : (s.mover m).position + 1 < s.unitCount t) :
      AtUnit (s.setMover m v.advanced) m t ∧ outstanding (s.setMover m v.advanced) m = [] := by
    refine ⟨⟨by rw [setMover_mover]; exact htransfer, hu.kind, hfit _, ?_, ?_⟩, ?_⟩
    · rw [setMover_mover]
      show v.position + 1 < s.unitCount t
      rw [hposition]
      exact hlt
    · rw [setMover_mover]
      refine hcounted.trans ?_
      rw [← hposition]
      rfl
    · rw [outstanding_eq, setMover_mover]
      exact (congrArg₂ (fun x y => heldBursts s m ++ Option.toList x ++ y) hrequest' hbursts').trans (by simp [hheld])
  unfold State.unitComplete
  dsimp only
  rw [hu.transfer]
  dsimp only
  rw [hv, setMover_mover, setMover_setMover]
  split
  · next hdone =>
    have hlast : s.unitCount t = (s.mover m).position + 1 := Nat.le_antisymm hdone hu.unit
    obtain ⟨hx, hy, hz⟩ := size_pos_of_unit hunits hu.unit
    refine hends (.done ?_ ?_)
    · rw [hcounted, ← hlast, elementsBefore_unitCount hunits (Nat.mul_pos (Nat.mul_pos hx hy) hz).ne']
    · exact hlast ▸ hpulses
  · next hmore =>
    have hlt : (s.mover m).position + 1 < s.unitCount t := Nat.lt_of_not_le hmore
    obtain ⟨hunit, hout⟩ := hnext hlt
    have hwork := hbut v.advanced htransfer
    have hat : ((s.setMover m v.advanced).mover m).position = (s.mover m).position + 1 := by
      rw [setMover_mover, ← hposition]
      rfl
    split
    · exact hends (.cut (q := (s.mover m).position + 1) (by simp) hlt hcounted hpulses)
    · split
      · next hline =>
        refine (hwork.work (startUnit_work _ m)).with (startUnit_counted hunit hout ?_ ?_)
        · rw [setMover_mover]
          exact hrun
        · intro n hn
          simp [hline] at hn
      · next l hline =>
        split
        · exact hends (.cut (q := (s.mover m).position + 1) (by simp) hlt hcounted hpulses)
        · refine (hwork.work (burstContinues_work _ m ?_)).with (burstContinues_counted hunit hout hline ?_)
          · rw [setMover_mover]
            exact (congrArg (fun x => Option.bind x Entry.line) htransfer).trans hline
          · rw [hat]
            exact hpulses

/-- The read side is answered in full: the write side begins, or nothing is left to write (R77, R80, R85). -/
theorem startWrite_counted (h : CountedBut b m s) (hu : AtUnit s m t) (hclear : outstanding s m = [])
    (hstate : (s.mover m).state = .run) (hpulses : Pulsed s t ((s.mover m).position + 1))
    (hwhole : (s.mover m).buffer.length = s.unitElements t (s.mover m).position * s.elementBytes t) :
    Counted b (s.startWrite m) := by
  have hunits := hu.fit.units hu.kind
  have hsize : 0 < s.elementBytes t := by rcases hunits.element with he | he | he <;> omega
  obtain ⟨hheld, hrequest, hbursts⟩ := idle_of_outstanding hclear
  unfold State.startWrite
  dsimp only
  rw [hu.transfer]
  dsimp only
  generalize hels : elementsOf (s.elementBytes t) (s.mover m).buffer = elements
  generalize hk : elements.countP (s.skips t) = k
  have hmatched : k ≤ s.unitElements t (s.mover m).position := by
    have hlength : elements.length = s.unitElements t (s.mover m).position := by
      rw [← hels, elementsOf_eq_pieces hsize hwhole]
      simp [pieces]
    rw [← hk, ← hlength]
    exact List.countP_le_length
  have hset := setMover_mover s m ((s.mover m).compared k)
  have hbut : CountedBut b m (s.setMover m ((s.mover m).compared k)) := h.work (setMover_work s m rfl)
  have hunit : AtUnit (s.setMover m ((s.mover m).compared k)) m t :=
    hu.of_items rfl (by rw [hset]; rfl) (by rw [hset]; rfl) (by rw [hset]; rfl) (by rw [hset]; rfl)
  have hwrites := writePlan_writes (s := s.setMover m ((s.mover m).compared k)) (t := t) (s.mover m).position elements
  split
  · refine unitComplete_counted hbut hunit ?_ ?_ ?_ ?_
    · rw [outstanding_eq, hset]
      exact hclear
    all_goals rw [hset]
    · exact hstate
    · exact hpulses
    · exact hmatched
  · next bursts hne =>
    refine (hbut.work (launch_work _ m _)).with (launch_counted hunit hheld ?_ ?_ ?_ hne ?_)
    · rw [hset]
      exact hrequest
    · rw [hset]
      exact hstate
    · rw [hset]
      exact hpulses
    · unfold SideAgrees
      rw [hset]
      exact ⟨nofun, fun _ => ⟨hwrites, hmatched⟩⟩

/-- A burst is answered in full: the next burst of the side, or the end of the side (R77, R88). -/
theorem continueSide_counted (h : CountedBut b m s) (hu : AtUnit s m t) (hheld : heldBursts s m = [])
    (hrequest : (s.mover m).request = none) (hstate : (s.mover m).state = .run)
    (hpulses : Pulsed s t ((s.mover m).position + 1)) (hside : SideAgrees s m t (s.mover m).bursts) :
    Counted b (s.continueSide m) := by
  obtain ⟨hread, hwrite⟩ := hside
  unfold State.continueSide
  dsimp only
  split
  · next first later hbursts =>
    rw [hbursts] at hread hwrite
    exact (h.work (launch_work s m _)).with
      (launch_counted hu hheld hrequest hstate hpulses (List.cons_ne_nil _ _) ⟨hread, hwrite⟩)
  · next hbursts =>
    have hclear : outstanding s m = [] := by
      rw [outstanding_eq, hheld, hrequest, hbursts]
      rfl
    split
    · next hdir =>
      obtain ⟨-, -, hbalance⟩ := hread hdir
      rw [hbursts] at hbalance
      exact startWrite_counted h hu hclear hstate hpulses hbalance
    · next hdir =>
      exact unitComplete_counted h hu hclear hstate hpulses (hwrite hdir).2

end Units

end Sys2Proof.Machine
end

section
/-! The accounts of the movers through the master port and the commands of the table (O35). -/

namespace Sys2Proof.Machine

open Sys2Proof.Safety

/-! ### The master port -/

/-- The burst of a mover at the arbiter: in progress or requested. -/
def pending (s : State) (k : MoverIndex) : List Burst :=
  heldBursts s k ++ (s.mover k).request.toList

theorem outstanding_pending (s : State) (k : MoverIndex) : outstanding s k = pending s k ++ (s.mover k).bursts := rfl

theorem heldBursts_grant {s : State} {g : Grant} (h : s.grant = some g) (k : MoverIndex) :
    heldBursts s k = if g.live = true ∧ g.owner = .mover k then [g.burst] else [] := by
  unfold heldBursts
  rw [h]
  by_cases hk : g.live = true ∧ g.owner = .mover k
  · rw [if_pos hk]
    simp [hk.1, hk.2]
  · rw [if_neg hk]
    simpa using hk

theorem heldBursts_free {s : State} (h : s.grant = none) (k : MoverIndex) : heldBursts s k = [] := by
  simp [heldBursts, h]

theorem heldBursts_grantTo (s : State) (r : Requester) (x : Burst) (k : MoverIndex) :
    heldBursts (s.grantTo r x) k = if r = .mover k then [x] else [] := by
  rw [heldBursts_grant (g := { owner := r, live := true, burst := x }) rfl]
  simp

section SetWaiting

variable (s : State) (r : Requester) (x : Option Burst) (k : MoverIndex)

theorem setWaiting_items : ((s.setWaiting r x).mover k).requesting none = (s.mover k).requesting none := by
  cases r with
  | reader => rfl
  | mover m =>
    by_cases hk : k = m
    · subst hk
      have hset : (s.setWaiting (.mover k) x).mover k = (s.mover k).requesting x := setMover_mover s k _
      rw [hset]
      rfl
    · exact congrArg (Mover.requesting · none) (setMover_mover_ne s hk _)

theorem setWaiting_request :
    ((s.setWaiting r x).mover k).request = if r = .mover k then x else (s.mover k).request := by
  cases r with
  | reader =>
    rw [if_neg nofun]
    rfl
  | mover m =>
    by_cases hk : k = m
    · subst hk
      rw [if_pos rfl]
      exact congrArg Mover.request (setMover_mover s k _)
    · rw [if_neg fun h => hk (Requester.mover.inj h).symm]
      exact congrArg Mover.request (setMover_mover_ne s hk _)

end SetWaiting

/-- A change of the arbiter alone keeps an account where the mover's burst is still there. -/
theorem AccountKept.of_arbiter {k : MoverIndex} {s t : State} (hitems : (t.mover k).requesting none = (s.mover k).requesting none)
    (hl : t.lines = s.lines) (hs : t.surfaces = s.surfaces) (hpending : pending t k = pending s k)
    (htidy : heldBursts t k = [] ∨ (t.mover k).request = none) : AccountKept k s t where
  items := hitems
  outstanding := by
    have hbursts := congrArg Mover.bursts hitems
    rw [outstanding_pending, outstanding_pending, hpending]
    exact congrArg _ hbursts
  tidy := htidy
  line _ _ n _ := by rw [line_congr hl]; exact ⟨rfl, rfl⟩
  surfaces _ _ := .of_eq hs _

theorem setWaiting_lines (s : State) (r : Requester) (x : Option Burst) : (s.setWaiting r x).lines = s.lines := by
  cases r <;> rfl

theorem setWaiting_surfaces (s : State) (r : Requester) (x : Option Burst) : (s.setWaiting r x).surfaces = s.surfaces := by
  cases r <;> rfl

theorem setWaiting_queue (s : State) (r : Requester) (x : Option Burst) : (s.setWaiting r x).queue = s.queue := by
  cases r <;> rfl

/-- Two requests in the other order: each requester still has its burst at the arbiter (R178; log 9). -/
theorem eitherOrder_counted {b s : State} (h : Counted b s) : Counted b (b.eitherOrder s) := by
  unfold State.eitherOrder
  split
  · rename_i g r hb hg _
    split
    · exact h
    · rename_i x hx
      dsimp only
      split
      · generalize hu : ({ s with draws := s.draws + 1 }.setWaiting r none).setWaiting g.owner (some g.burst) = u
        have hlive : g.live = true := h.1.fresh hb g (by simp [hg])
        have hlines : u.lines = s.lines := by rw [← hu, setWaiting_lines, setWaiting_lines]
        have hsurfaces : u.surfaces = s.surfaces := by rw [← hu, setWaiting_surfaces, setWaiting_surfaces]
        have hqueue : u.queue = s.queue := by rw [← hu, setWaiting_queue, setWaiting_queue]
        refine h.kept (fun k => ?_) (fun e he => ?_) fun _ y hy => ?_
        · have hitems : (u.mover k).requesting none = (s.mover k).requesting none := by
            rw [← hu, setWaiting_items, setWaiting_items]
            rfl
          have hrequest : (u.mover k).request =
              if g.owner = .mover k then some g.burst else if r = .mover k then none else (s.mover k).request := by
            rw [← hu, setWaiting_request, setWaiting_request]
            rfl
          have hheld : heldBursts ({ u with rotation := b.rotation }.grantTo r x) k = if r = .mover k then [x] else [] :=
            heldBursts_grantTo _ r x k
          have hbefore : heldBursts s k = if g.owner = .mover k then [g.burst] else [] := by
            rw [heldBursts_grant hg]
            simp [hlive]
          have hwaiting : r = .mover k → (s.mover k).request = some x := fun hr => by rw [hr] at hx; exact hx
          have htidy := (h.2 k).tidy
          rw [hbefore] at htidy
          have hmover : ({ u with rotation := b.rotation }.grantTo r x).mover k = u.mover k := rfl
          have hapart : ¬ (r = .mover k ∧ g.owner = .mover k) := by
            rintro ⟨hr, ho⟩
            rw [hwaiting hr] at htidy
            simp [ho] at htidy
          refine .of_arbiter (by rw [hmover, hitems]) hlines hsurfaces ?_ ?_
          · rw [pending, pending, hheld, hbefore, hmover, hrequest]
            by_cases hr : r = .mover k
            · have ho : g.owner ≠ .mover k := fun ho => hapart ⟨hr, ho⟩
              simp [hr, ho, hwaiting hr]
            · by_cases ho : g.owner = .mover k
              · have hnone : (s.mover k).request = none := by simpa [ho] using htidy
                simp [hr, ho, hnone]
              · simp [hr, ho]
          · rw [hheld, hmover, hrequest]
            by_cases hr : r = .mover k
            · have ho : g.owner ≠ .mover k := fun ho => hapart ⟨hr, ho⟩
              simp [hr, ho]
            · simp [hr]
        · exact (SameSurfaces.of_eq (by exact hsurfaces) e).fit (h.1.queue e (hqueue ▸ he))
        · obtain rfl : { owner := r, live := true, burst := x } = y := by simpa [State.grantTo] using hy
          rfl
      · exact h.frame (.of_eq rfl rfl rfl rfl) rfl
  · exact h

/-- The port is freed: a mover has its request in progress, or still as a request (R178). -/
theorem releasePort_pending (s : State) (k : MoverIndex) :
    (s.releasePort.mover k).requesting none = (s.mover k).requesting none
      ∧ pending s.releasePort k = (s.mover k).request.toList
      ∧ (heldBursts s.releasePort k = [] ∨ (s.releasePort.mover k).request = none) := by
  have hfree : heldBursts { s with grant := none } k = [] := heldBursts_free rfl k
  unfold State.releasePort
  dsimp only
  split
  · exact ⟨rfl, by rw [pending, hfree]; rfl, .inl hfree⟩
  · rename_i r _
    split
    · exact ⟨rfl, by rw [pending, hfree]; rfl, .inl hfree⟩
    · rename_i x hx
      have hitems := setWaiting_items { s with grant := none } r none k
      have hrequest := setWaiting_request { s with grant := none } r none k
      have hheld := heldBursts_grantTo (State.setWaiting { s with grant := none } r none) r x k
      have hmover : ((State.setWaiting { s with grant := none } r none).grantTo r x).mover k
          = (State.setWaiting { s with grant := none } r none).mover k := rfl
      refine ⟨hitems, ?_, ?_⟩
      · rw [pending, hheld, hmover, hrequest]
        by_cases hr : r = .mover k
        · rw [hr] at hx
          have hsome : (s.mover k).request = some x := hx
          simp [hr, hsome]
        · simp [hr]
          rfl
      · rw [hheld, hmover, hrequest]
        by_cases hr : r = .mover k <;> simp [hr]

theorem releasePort_live (s : State) : ∀ g ∈ s.releasePort.grant, g.live = true := by
  unfold State.releasePort
  dsimp only
  split
  · simp
  · split
    · simp
    · simp [State.grantTo]

theorem releasePort_frame (s : State) :
    s.releasePort.lines = s.lines ∧ s.releasePort.surfaces = s.surfaces ∧ s.releasePort.queue = s.queue := by
  obtain ⟨_, _, _, _, _, h⟩ := releasePort_arbiterOnly s
  rw [h]
  exact ⟨rfl, rfl, rfl⟩

/-- The port is freed of a burst that is not this mover's. -/
theorem releasePort_account {s : State} {k : MoverIndex} (h : heldBursts s k = []) : AccountKept k s s.releasePort := by
  obtain ⟨hitems, hpending, htidy⟩ := releasePort_pending s k
  obtain ⟨hlines, hsurfaces, -⟩ := releasePort_frame s
  refine .of_arbiter hitems hlines hsurfaces ?_ htidy
  rw [hpending, pending, h]
  rfl

theorem releasePort_common {b s : State} (h : Common b s) (c : State) : Common c s.releasePort := by
  obtain ⟨-, hsurfaces, hqueue⟩ := releasePort_frame s
  refine h.kept (fun k => ?_) (fun e he => ?_) fun _ => releasePort_live s
  · have := congrArg Mover.transfer (releasePort_pending s k).1
    exact this
  · exact (SameSurfaces.of_eq hsurfaces e).fit (h.queue e (hqueue ▸ he))

theorem requestBurst_reader_counted {b s : State} (h : Counted b s) (x : Burst) : Counted b (s.requestBurst .reader x) := by
  unfold State.requestBurst
  cases hg : s.grant with
  | none =>
    refine h.kept (fun k => .of_arbiter rfl rfl rfl ?_ (.inl (heldBursts_grantTo s .reader x k))) (fun e he => ?_)
      fun _ g hgrant => ?_
    · rw [pending, pending, heldBursts_free hg, heldBursts_grantTo]
      rfl
    · exact (SameSurfaces.of_eq (by rfl) e).fit (h.1.queue e he)
    · obtain rfl : { owner := .reader, live := true, burst := x } = g := by simpa [State.grantTo] using hgrant
      rfl
  | some g => exact h.frame (.of_eq rfl rfl rfl rfl) rfl

/-! ### Beat answers -/

/-- A mover in RUN holds a transfer (R73). -/
def Engaged (s : State) : Prop :=
  ∀ m : MoverIndex, (s.mover m).state = .run → ∃ t, (s.mover m).transfer = some t

section Beats

variable {b s : State} {g : Grant} {m : MoverIndex} {rest : List Beat}

/-- The mover whose burst is in progress: it runs a unit, and its other bursts are still to request. -/
structure Owns (s : State) (g : Grant) (m : MoverIndex) (t : Entry) : Prop where
  unit : AtUnit s m t
  state : (s.mover m).state = .run
  request : (s.mover m).request = none
  pulses : Pulsed s t ((s.mover m).position + 1)
  side : SideAgrees s m t (g.burst :: (s.mover m).bursts)

theorem owner_owns (h : Counted b s) (he : Engaged s) (hg : s.grant = some g) (hlive : g.live = true)
    (howner : g.owner = .mover m) : ∃ t, Owns s g m t := by
  have hheld : heldBursts s m = [g.burst] := by rw [heldBursts_grant hg, if_pos ⟨hlive, howner⟩]
  have hrequest : (s.mover m).request = none := by simpa [hheld] using (h.2 m).tidy
  have hout : outstanding s m = g.burst :: (s.mover m).bursts := by
    rw [outstanding_eq, hheld, hrequest]
    rfl
  have hstate : (s.mover m).state = .run := by
    by_contra hn
    have hnone := (h.2 m).quiet hn
    rw [hout] at hnone
    cases hnone
  obtain ⟨t, ht⟩ := he m hstate
  exact ⟨t, (h.2 m).atUnit ht (by simp [hstate]), hstate, hrequest, (h.2 m).run_pulsed ht hstate,
    hout ▸ ((h.2 m).side ht hstate).2⟩

/-- The bursts of another requester are not this mover's. -/
theorem held_of_other (hg : s.grant = some g) {k : MoverIndex} (h : ¬ (g.live = true ∧ g.owner = .mover k)) :
    heldBursts s k = [] := by
  rw [heldBursts_grant hg, if_neg h]

/-- The burst in progress with its first beat answered. -/
def Grant.answered (g : Grant) (rest : List Beat) : Grant :=
  { g with burst := { g.burst with beats := rest } }

/-- The bytes of a beat come out of the lanes that its burst still has. -/
theorem SideAgrees.takes {t : Entry} {beat : Beat} {rest : List Beat} {data : Word} {later : List Burst}
    (h : SideAgrees s m t (g.burst :: later)) (hbeats : g.burst.beats = beat :: rest) (hread : g.burst.write = false) :
    SideAgrees (s.setMover m ((s.mover m).taking (laneBytes beat.enables data))) m t ((g.answered rest).burst :: later) := by
  obtain ⟨hr, hw⟩ := h
  unfold SideAgrees
  rw [setMover_mover]
  refine ⟨fun hside => ?_, fun hside => ?_⟩
  · obtain ⟨hmove, hall, hbalance⟩ := hr hside
    refine ⟨hmove, fun x hx => ?_, ?_⟩
    · rcases List.mem_cons.mp hx with rfl | hx
      · exact hread
      · exact hall x (List.mem_cons_of_mem _ hx)
    · rw [enabledLanes_cons, hbeats, beatLanes_cons] at hbalance
      rw [enabledLanes_cons]
      refine Eq.trans ?_ hbalance
      show ((s.mover m).buffer ++ laneBytes beat.enables data).length + (beatLanes rest + _) = _
      rw [List.length_append, laneBytes_length]
      omega
  · exact absurd ((hw hside).1 g.burst (List.mem_cons_self ..)) (by simp [hread])

/-- The owner takes what a beat of its burst brings (R77, R176). -/
theorem takeData_owns {t : Entry} (h : Owns s g m t) {beat : Beat} {rest : List Beat} (hbeats : g.burst.beats = beat :: rest)
    (data : Word) : Owns (s.takeData (.mover m) g.burst.write beat data) (g.answered rest) m t := by
  unfold State.takeData
  split
  · next hwrite =>
    obtain ⟨hr, hw⟩ := h.side
    refine ⟨h.unit, h.state, h.request, h.pulses, fun hside => ?_, fun hside => ⟨fun x hx => ?_, (hw hside).2⟩⟩
    · obtain ⟨-, hall, -⟩ := hr hside
      exact absurd (hall g.burst (List.mem_cons_self ..)) (by simp [hwrite])
    · rcases List.mem_cons.mp hx with rfl | hx
      · exact hwrite
      · exact (hw hside).1 x (List.mem_cons_of_mem _ hx)
  · next hread =>
    have hset := setMover_mover s m ((s.mover m).taking (laneBytes beat.enables data))
    have hside := h.side.takes (data := data) hbeats (by simpa using hread)
    refine ⟨h.unit.of_items rfl ?_ ?_ ?_ ?_, ?_, ?_, ?_, ?_⟩ <;> dsimp only <;> rw [hset]
    · rfl
    · rfl
    · rfl
    · rfl
    · exact h.state
    · exact h.request
    · exact h.pulses
    · exact hside

theorem takeData_but (h : CountedBut b m s) (beat : Beat) (write : Bool) (data : Word) :
    CountedBut b m (s.takeData (.mover m) write beat data) := by
  unfold State.takeData
  split
  · exact h
  · exact h.work (setMover_work s m rfl)

theorem takeData_grant (r : Requester) (write : Bool) (beat : Beat) (data : Word) :
    (s.takeData r write beat data).grant = s.grant := by
  unfold State.takeData
  split
  · rfl
  · cases r <;> rfl

/-- A burst without beats left brings nothing more. -/
theorem SideAgrees.tail {t : Entry} {x : Burst} {later : List Burst} (h : SideAgrees s m t (x :: later)) (hx : x.beats = []) :
    SideAgrees s m t later := by
  obtain ⟨hr, hw⟩ := h
  refine ⟨fun hside => ?_, fun hside => ⟨fun y hy => (hw hside).1 y (List.mem_cons_of_mem _ hy), (hw hside).2⟩⟩
  obtain ⟨hmove, hall, hbalance⟩ := hr hside
  rw [enabledLanes_cons, hx, beatLanes, List.map_nil, List.sum_nil, Nat.zero_add] at hbalance
  exact ⟨hmove, fun y hy => hall y (List.mem_cons_of_mem _ hy), hbalance⟩

/-- The port is freed of a mover's burst: the mover still runs its unit, with nothing at the arbiter. -/
theorem releasePort_owner {t : Entry} (h : Owns s g m t) :
    let u := s.releasePort
    AtUnit u m t ∧ heldBursts u m = [] ∧ (u.mover m).request = none ∧ (u.mover m).state = .run
      ∧ Pulsed u t ((u.mover m).position + 1) ∧ SideAgrees u m t (g.burst :: (u.mover m).bursts) := by
  obtain ⟨hitems, hpending, -⟩ := releasePort_pending s m
  obtain ⟨hlines, hsurfaces, -⟩ := releasePort_frame s
  rw [h.request, pending, Option.toList_none, List.append_eq_nil_iff, Option.toList_eq_nil_iff] at hpending
  have hmover : s.releasePort.mover m = s.mover m := by
    have hall : ∀ v w : Mover, v.request = none → w.request = none → v.requesting none = w.requesting none → v = w := by
      rintro ⟨⟩ ⟨⟩ rfl rfl hvw
      simpa [Mover.requesting] using hvw
    exact hall _ _ hpending.2 h.request hitems
  have hsame := SameSurfaces.of_eq hsurfaces t
  dsimp only
  unfold SideAgrees
  rw [hmover, hsame.unitElements, hsame.elementBytes]
  exact ⟨h.unit.of_items hsurfaces (by rw [hmover]) (by rw [hmover]) (by rw [hmover]) (by rw [hmover]), hpending.1, h.request,
    h.state, h.pulses.of_lines hlines, h.side⟩

/-- The port is freed of the burst in progress: the accounts of the others are as before. -/
theorem releasePort_but (h : CountedBut b m s) (hg : s.grant = some g) (howner : g.owner = .mover m) (c : State) :
    CountedBut c m s.releasePort := by
  refine ⟨releasePort_common h.1 c, fun k hk => (h.2 k hk).kept (releasePort_account (held_of_other hg fun hother => hk ?_))⟩
  exact Requester.mover.inj (hother.2.symm.trans howner)

/-- The port is freed of a burst that is no mover's. -/
theorem releasePort_counted (h : Counted b s) (hheld : ∀ k, heldBursts s k = []) (c : State) : Counted c s.releasePort :=
  ⟨releasePort_common h.1 c, fun k => (h.2 k).kept (releasePort_account (hheld k))⟩

/-- Another burst, or the rest of one, is in progress. -/
def State.inProgress (s : State) (g : Grant) : State :=
  { s with grant := some g }

/-- The accounts of those who do not own the burst in progress. -/
theorem inProgress_account (hg : s.grant = some g) {g' : Grant} {k : MoverIndex} (hlive : g'.live = g.live)
    (howner : g'.owner = g.owner) (h : ¬ (g.live = true ∧ g.owner = .mover k)) : AccountKept k s (s.inProgress g') := by
  have hnone : heldBursts (s.inProgress g') k = [] := held_of_other rfl (by rwa [hlive, howner])
  refine .of_arbiter rfl rfl rfl ?_ (.inl hnone)
  rw [pending, pending, hnone, held_of_other hg h]
  rfl

theorem inProgress_common (h : Common b s) (hg : s.grant = some g) {g' : Grant} (hlive : g'.live = g.live) :
    Common b (s.inProgress g') := by
  refine h.kept (fun _ => rfl) (fun e he => (SameSurfaces.of_eq (by rfl) e).fit (h.queue e he)) fun hb x hx => ?_
  obtain rfl : g' = x := by simpa [State.inProgress] using hx
  rw [hlive]
  exact h.fresh hb g (by simp [hg])

/-- A beat that is not the last of a mover's burst (R177). -/
theorem answered_owner_counted {t : Entry} (h : CountedBut b m s) (ho : Owns s (g.answered rest) m t) (hg : s.grant = some g)
    (hlive : g.live = true) (howner : g.owner = .mover m) : Counted b (s.inProgress (g.answered rest)) := by
  have hheld : heldBursts (s.inProgress (g.answered rest)) m = [(g.answered rest).burst] :=
    (heldBursts_grant rfl m).trans (if_pos ⟨hlive, howner⟩)
  have hout : outstanding (s.inProgress (g.answered rest)) m = (g.answered rest).burst :: (s.mover m).bursts := by
    rw [outstanding_eq, hheld]
    exact congrArg (fun x => [(g.answered rest).burst] ++ Option.toList x ++ (s.mover m).bursts) ho.request
  have hunit : AtUnit (s.inProgress (g.answered rest)) m t := ho.unit.of_items rfl rfl rfl rfl rfl
  have hother (k : MoverIndex) (hk : k ≠ m) : ¬ (g.live = true ∧ g.owner = .mover k) :=
    fun hboth => hk (Requester.mover.inj (hboth.2.symm.trans howner))
  refine CountedBut.with (m := m) ⟨inProgress_common h.1 hg rfl, fun k hk => ?_⟩
    (hunit.running ho.state (.inr ho.request) ho.pulses ?_ ?_)
  · exact (h.2 k hk).kept (inProgress_account hg rfl rfl (hother k hk))
  · simp [hout]
  · rw [hout]
    exact ho.side

end Beats

end Sys2Proof.Machine
end

section
/-! The counts of every transfer through every command of the table (O35). -/

namespace Sys2Proof.Machine

open Sys2Proof.Safety

/-! ### Acceptance -/

/-- What acceptance fixes (R32, R34, R44). -/
theorem accepted_entrySound {s : State} {c : Command} {e : Entry} (h : s.verdict c = .accepted e) : EntrySound s e := by
  have hrefusal : acceptanceRefusal s c = none := by
    rw [← verdict_refusal, h]
    rfl
  obtain ⟨-, hentry⟩ := verdict_accepted h
  cases hentry with
  | fence => exact ⟨rfl, fun _ => ⟨rfl, rfl⟩, nofun, nofun, nofun⟩
  | fill => exact ⟨effective_add_clipped _ _, nofun, fun _ => ⟨rfl, rfl⟩, nofun, nofun⟩
  | @move a b hk ha hb =>
    have hchecks := moveRefusal_of_accepted hrefusal hk ha hb
    simp only [moveRefusal, check_eq_none] at hchecks
    obtain ⟨-, -, hports, hsizes, -⟩ := hchecks
    obtain ⟨-, hsa, -⟩ := named_eq_some ha
    obtain ⟨-, hsb, -⟩ := named_eq_some hb
    refine ⟨effective_add_clipped _ _, nofun, nofun, fun _ => ⟨rfl, rfl⟩, fun x hx y hy => ?_⟩
    obtain rfl : a.accepted [a, b] c.size = x := by simpa [moveEntry] using hx
    obtain rfl : b.accepted [a, b] c.size = y := by simpa [moveEntry] using hy
    simp only [NamedSide.accepted, ← hsa, ← hsb, isPort_eq_true]
    exact ⟨not_not.mp hsizes, hports⟩

theorem accepted_fit {s : State} {c : Command} {e : Entry} (h : s.verdict c = .accepted e) (hlegal : SurfacesLegal s) :
    Fit s e :=
  ⟨accepted_entrySound h, fun i hi => hlegal i (verdict_accepted_notFree h i hi)⟩

section Events

variable {b s : State}

/-- An accepted entry enters the queue (R46). -/
theorem enqueue_counted (h : Counted b s) {e : Entry} (he : Fit s e) : Counted b (s.enqueue e) := by
  have hstill := addRefs_still s e
  refine h.still (t := s.enqueue e) ⟨hstill.movers, hstill.lines, hstill.grant, hstill.surfaces⟩ fun x hx => ?_
  rcases List.mem_append.mp hx with hx | hx
  · exact h.1.queue x hx
  · rw [List.mem_singleton.mp hx]
    exact he

theorem endList_counted (h : Counted b s) (w : EndReason) (r : Option Reason) : Counted b (s.endList w r) :=
  h.frame (.of_eq rfl rfl rfl rfl) rfl

/-- A presentation (R138, R139, R140). -/
theorem present_counted (h : Counted b s) (hlegal : SurfacesLegal s) (record : Vector Word 8) : Counted b (s.present record) := by
  unfold State.present
  split
  · exact h.frame (.of_eq rfl rfl rfl rfl) rfl
  · exact endList_counted h _ _
  · rename_i e he
    have hcount : Counted b { s.enqueue e with
        reader := { (s.enqueue e).reader with count := (s.enqueue e).reader.count + 1 } } :=
      (enqueue_counted h (accepted_fit he hlegal)).frame (.of_eq rfl rfl rfl rfl) rfl
    dsimp only
    split
    · exact examineIf_counted (endList_counted hcount _ _) _
    · refine requestBurst_reader_counted (examineIf_counted ?_ _) _
      exact hcount.frame (.of_eq rfl rfl rfl rfl) rfl

theorem postStaged_counted (h : Counted b s) (hlegal : SurfacesLegal s) : Counted b s.postStaged := by
  unfold State.postStaged
  dsimp only
  split
  · exact h.frame (.of_eq rfl rfl rfl rfl) rfl
  · rename_i e he
    refine examineIf_counted ?_ _
    exact (enqueue_counted h (accepted_fit he hlegal)).frame (.of_eq rfl rfl rfl rfl) rfl

theorem presentAgain_counted (h : Counted s s) (hlegal : SurfacesLegal s) : Counted s s.presentAgain := by
  unfold State.presentAgain
  split
  · split
    · exact h
    · exact eitherOrder_counted (present_counted h hlegal _)
  · exact h

/-! ### Beats -/

theorem surfacesLegal_of_eq {t : State} (h : SurfacesLegal s) (hs : t.surfaces = s.surfaces) : SurfacesLegal t := by
  intro i hi
  rw [surface_congr hs] at hi ⊢
  exact h i hi

/-- The answer to a beat of a mover's burst (R77, R88, R177). -/
theorem answerOwner_counted (h : Counted s s) {g : Grant} {m : MoverIndex} {t : Entry} (ho : Owns s g m t)
    (hg : s.grant = some g) (hlive : g.live = true) (howner : g.owner = .mover m) {beat : Beat} {rest : List Beat}
    (hbeats : g.burst.beats = beat :: rest) (data : Word) :
    let u := if g.live then s.takeData g.owner g.burst.write beat data else s
    (rest ≠ [] → Counted s (u.inProgress (g.answered rest)))
      ∧ (rest = [] → Counted u.releasePort (u.completeBurst g)) := by
  intro u
  have hu : u = s.takeData (.mover m) g.burst.write beat data := by
    rw [← howner]
    exact if_pos hlive
  have howns : Owns u (g.answered rest) m t := hu ▸ takeData_owns ho hbeats data
  have hgrant : u.grant = some g := by rw [hu, takeData_grant, hg]
  have hbut : CountedBut s m u := hu ▸ takeData_but (h.but m) beat g.burst.write data
  refine ⟨fun _ => answered_owner_counted hbut howns hgrant hlive howner, fun hrest => ?_⟩
  obtain ⟨hunit, hheld, hrequest, hstate, hpulses, hside⟩ := releasePort_owner howns
  unfold State.completeBurst
  dsimp only
  rw [if_pos hlive, howner]
  exact eitherOrder_counted (continueSide_counted (releasePort_but hbut hgrant howner _) hunit hheld hrequest hstate hpulses
    (hside.tail hrest))

/-- The answer to a beat that is no mover's: it reaches the list reader or nobody (R137, R179). -/
theorem answerOther_counted (h : Counted s s) (hlegal : SurfacesLegal s) {g : Grant} (hg : s.grant = some g)
    (hother : ∀ m, ¬ (g.live = true ∧ g.owner = .mover m)) {beat : Beat} {rest : List Beat} (data : Word) :
    let u := if g.live then s.takeData g.owner g.burst.write beat data else s
    Counted s (u.inProgress (g.answered rest)) ∧ Counted u.releasePort (u.completeBurst g) := by
  intro u
  have hu : Counted s u ∧ u.grant = some g ∧ u.surfaces = s.surfaces := by
    by_cases hlive : g.live = true
    · have howner : g.owner = .reader := by
        cases ho : g.owner with
        | mover m => exact absurd ⟨hlive, ho⟩ (hother m)
        | reader => rfl
      have hreader : u = s.takeData .reader g.burst.write beat data := by
        rw [← howner]
        exact if_pos hlive
      rw [hreader]
      unfold State.takeData
      split
      · exact ⟨h, hg, rfl⟩
      · exact ⟨h.frame (.of_eq rfl rfl rfl rfl) rfl, hg, rfl⟩
    · have hsame : u = s := if_neg hlive
      rw [hsame]
      exact ⟨h, hg, rfl⟩
  obtain ⟨hcounted, hgrant, hsurfaces⟩ := hu
  have hheld (k : MoverIndex) : heldBursts u k = [] := held_of_other hgrant (hother k)
  refine ⟨⟨inProgress_common hcounted.1 hgrant rfl,
    fun k => (hcounted.2 k).kept (inProgress_account hgrant rfl rfl (hother k))⟩, ?_⟩
  have hfree := releasePort_counted hcounted hheld u.releasePort
  unfold State.completeBurst
  dsimp only
  split
  · next hlive =>
    cases ho : g.owner with
    | mover m => exact absurd ⟨hlive, ho⟩ (hother m)
    | reader =>
      exact eitherOrder_counted (present_counted hfree
        (surfacesLegal_of_eq hlegal ((releasePort_frame u).2.1.trans hsurfaces)) _)
  · exact hfree

/-- Some state at the beginning of the event's requests stands before the accounts (R178). -/
def AllCounted (s : State) : Prop :=
  ∃ b, Counted b s

theorem answerBeat_counted (h : Counted s s) (he : Engaged s) (hlegal : SurfacesLegal s) (data : Word) :
    AllCounted (s.answerBeat data) := by
  unfold State.answerBeat
  split
  · exact ⟨s, h⟩
  · rename_i g hg
    split
    · exact ⟨s, h⟩
    · rename_i beat rest hbeats
      dsimp only
      by_cases howned : ∃ m, g.live = true ∧ g.owner = .mover m
      · obtain ⟨m, hlive, howner⟩ := howned
        obtain ⟨t, ho⟩ := owner_owns h he hg hlive howner
        obtain ⟨hgoing, hlast⟩ := answerOwner_counted h ho hg hlive howner hbeats data
        generalize (if g.live = true then s.takeData g.owner g.burst.write beat data else s) = u at hgoing hlast ⊢
        split
        · next hrest => exact ⟨_, hlast (List.isEmpty_iff.mp hrest)⟩
        · next hrest => exact ⟨_, hgoing fun hnil => hrest (List.isEmpty_iff.mpr hnil)⟩
      · obtain ⟨hgoing, hlast⟩ := answerOther_counted h hlegal hg (fun m hm => howned ⟨m, hm⟩) (beat := beat)
          (rest := rest) data
        generalize (if g.live = true then s.takeData g.owner g.burst.write beat data else s) = u at hgoing hlast ⊢
        split
        · exact ⟨_, hlast⟩
        · exact ⟨_, hgoing⟩

/-- An error response ends a mover's transfer in its unit (R90). -/
theorem moverFault_counted {m : MoverIndex} {t : Entry} (h : CountedBut b m s) (hu : AtUnit s m t) (hheld : heldBursts s m = [])
    (hrequest : (s.mover m).request = none) (hpulses : Pulsed s t ((s.mover m).position + 1)) (item : FaultItem) :
    Counted b (s.moverFault m item) := by
  unfold State.moverFault
  rw [hu.transfer]
  dsimp only
  generalize { mover := m, tag := t.tag, kind := t.kind, item := item : FaultRecord } = r
  have hstill := captureFault_still s r
  have hmover : (s.captureFault r).mover m = s.mover m := mover_congr hstill.movers m
  have hqueue : (s.captureFault r).queue = s.queue := by
    unfold State.captureFault
    split <;> rfl
  have hsame : SameSurfaces t s (s.captureFault r) := fun i _ => hstill.surfaces i
  have hbut : CountedBut b m (s.captureFault r) := by
    refine ⟨h.1.kept (fun k => by rw [mover_congr hstill.movers]) (fun e he => hstill.fit (h.1.queue e (hqueue ▸ he))) ?_,
      fun k hk => (h.2 k hk).kept (hstill.account (h.2 k hk).tidy)⟩
    rw [hstill.grant]
    exact h.1.fresh
  refine endTransfer_counted hbut (some item) (by rw [hmover, hu.transfer]) hu.kind (hsame.fit hu.fit)
    ((heldBursts_congr hstill.grant m).trans hheld) (by rw [hmover, hrequest]) ?_
  rw [hmover]
  refine .faulted (q := (s.mover m).position) (by rw [hsame.unitCount]; exact hu.unit)
    (by rw [hsame.elementsBefore]; exact hu.counted) fun n hn => ?_
  obtain ⟨hp, hb⟩ := hstill.lines n
  unfold PacingLine.pulsesOfTransfer
  rw [hp, hb]
  exact hpulses n hn

theorem failBeat_counted (h : Counted s s) (he : Engaged s) : AllCounted s.failBeat := by
  unfold State.failBeat
  split
  · exact ⟨s, h⟩
  · rename_i g hg
    split
    · exact ⟨s, h⟩
    · rename_i beat rest hbeats
      dsimp only
      by_cases howned : ∃ m, g.live = true ∧ g.owner = .mover m
      · obtain ⟨m, hlive, howner⟩ := howned
        obtain ⟨t, ho⟩ := owner_owns h he hg hlive howner
        obtain ⟨hunit, hheld, hrequest, -, hpulses, -⟩ := releasePort_owner ho
        rw [if_pos hlive, howner]
        exact ⟨s, moverFault_counted (releasePort_but (h.but m) hg howner s) hunit hheld hrequest hpulses _⟩
      · have hfree := releasePort_counted h (fun k => held_of_other hg fun hm => howned ⟨k, hm⟩) s
        split
        · next hlive =>
          cases ho : g.owner with
          | mover m => exact absurd ⟨m, hlive, ho⟩ howned
          | reader => exact ⟨s, endList_counted hfree _ _⟩
        · exact ⟨s, hfree⟩

end Events

end Sys2Proof.Machine
end

section
/-! The counts of every transfer through every command of the table, and O35. -/

namespace Sys2Proof.Machine

open Sys2Proof.Safety

section Commands

variable {b s : State}

theorem result_counted (h : Counted b s) (c : ResultCode) (v : Nat) : Counted b (s.result c v) :=
  h.frame (.of_eq rfl rfl rfl rfl) rfl

/-- The event may begin here. -/
theorem Counted.here (h : Counted b s) : Counted s s :=
  ⟨h.1.kept (fun _ => rfl) h.1.queue fun hnone g hg => by simp [hnone] at hg, h.2⟩

/-! ### Stops, and the ends that a line brings -/

/-- A stop request changes no count (R89). -/
theorem stopping_counted (h : Counted b s) {m : MoverIndex} {t : Entry} (ht : (s.mover m).transfer = some t)
    (hstate : (s.mover m).state = .run) : Counted b (s.setMover m (s.mover m).stopping) := by
  have hunit := (h.2 m).atUnit ht (by simp [hstate])
  obtain ⟨hne, hside⟩ := (h.2 m).side ht hstate
  have hset := setMover_mover s m (s.mover m).stopping
  have hout : outstanding (s.setMover m (s.mover m).stopping) m = outstanding s m := by
    rw [outstanding_eq, outstanding_eq, hset]
    rfl
  have hunit' : AtUnit (s.setMover m (s.mover m).stopping) m t :=
    hunit.of_items rfl (by rw [hset]; rfl) (by rw [hset]; rfl) (by rw [hset]; rfl) (by rw [hset]; rfl)
  refine ((h.but m).work (setMover_work s m (v := (s.mover m).stopping) rfl)).with (hunit'.running ?_ ?_ ?_ (by rwa [hout]) ?_)
  · rw [hset]
    exact hstate
  · rw [hset]
    exact (h.2 m).tidy
  · rw [hset]
    exact (h.2 m).run_pulsed ht hstate
  · unfold SideAgrees
    rw [hout, hset]
    exact hside

/-- A transfer in PACE that ends before its unit has the ending of its line's pulses (R87, R107, R109, R111). -/
theorem ends_from_pace {m : MoverIndex} {t : Entry} (h : MoverCounted s m) (ht : (s.mover m).transfer = some t)
    (hstate : (s.mover m).state = .pace) {o : Outcome} (ho : o = .short ∨ o = .timeout ∨ o = .aborted) :
    EndsWith s t ((s.mover m).moved + (s.mover m).skipped) o := by
  have hunit := h.atUnit ht (by simp [hstate])
  exact .cut ho hunit.unit hunit.counted (h.pace_pulsed ht hstate)

theorem stopMover_counted (h : Counted b s) (tag : Tag) (m : MoverIndex) : Counted b (s.stopMover tag m) := by
  unfold State.stopMover
  dsimp only
  split
  · exact h
  · rename_i t ht
    split
    · split
      · next hstate => exact stopping_counted h ht hstate
      · next hstate =>
        have hunit := (h.2 m).atUnit ht (by simp [hstate])
        obtain ⟨hheld, hrequest, -⟩ := idle_of_outstanding ((h.2 m).quiet (by simp [hstate]))
        exact ((h.but m).work (finish_work s m _ _)).with
          (finish_counted none ht hunit.kind hunit.fit hheld hrequest (ends_from_pace (h.2 m) ht hstate (by simp)))
      all_goals exact h
    · exact h

theorem mark_fit {e : Entry} (he : Fit s e) (tag : Tag) : Fit s (Entry.mark tag e) := by
  unfold Entry.mark
  split
  · exact ⟨he.entry, he.legal⟩
  · exact he

theorem abortByTag_counted (h : Counted s s) (tag : Tag) : Counted s (s.abortByTag tag) := by
  have hmark : Counted s { s with queue := s.queue.map (Entry.mark tag) } := by
    refine h.still (.of_eq rfl rfl rfl rfl) fun x hx => ?_
    obtain ⟨e, he, rfl⟩ := List.mem_map.mp hx
    exact mark_fit (h.1.queue e he) tag
  have hstop := stopMover_counted (stopMover_counted hmark tag 0) tag 1
  unfold State.abortByTag
  dsimp only
  refine result_counted ?_ _ _
  split
  · exact hstop
  · exact eitherOrder_counted (settle_counted hstop)

theorem resumeDispatch_counted (h : Counted s s) : Counted s s.resumeDispatch := by
  unfold State.resumeDispatch
  split
  · refine result_counted (eitherOrder_counted (examine_counted ?_)) _ _
    exact h.frame (.of_eq rfl rfl rfl rfl) rfl
  · exact result_counted h _ _

theorem popCompletion_counted (h : Counted s s) : Counted s s.popCompletion := by
  unfold State.popCompletion
  split
  · exact h.frame (.of_eq rfl rfl rfl rfl) rfl
  · rename_i rest _
    have hrest : Counted s { s with completions := rest } := h.frame (.of_eq rfl rfl rfl rfl) rfl
    dsimp only
    split
    · exact hrest
    · exact eitherOrder_counted (settle_counted hrest)

/-- A bound line that waits has its mover in PACE, with a transfer that records the line (R73, R101). -/
theorem bound_paces (hb : BindingSound s) {n : LineIndex} {m : MoverIndex} (hbound : (s.line n).bound = some m)
    (hstate : (s.line n).state = .wait ∨ (s.line n).state = .waitLow) :
    ∃ t, (s.mover m).transfer = some t ∧ t.line = some n ∧ (s.mover m).state = .pace := by
  obtain ⟨hline, hmover⟩ := (hb m n).mp hbound
  obtain ⟨t, ht, htl⟩ := Option.bind_eq_some_iff.mp hline
  refine ⟨t, ht, htl, hmover.trans ?_⟩
  rcases hstate with h | h <;> rw [h] <;> rfl

theorem endFromLine_counted (h : Counted s s) (hb : BindingSound s) {n : LineIndex}
    (hstate : (s.line n).state = .wait ∨ (s.line n).state = .waitLow) {o : Outcome}
    (ho : o = .short ∨ o = .timeout ∨ o = .aborted) : Counted s (s.endFromLine n o) := by
  unfold State.endFromLine
  split
  · exact h
  · rename_i m hbound
    obtain ⟨t, ht, -, hpace⟩ := bound_paces hb hbound hstate
    have hunit := (h.2 m).atUnit ht (by simp [hpace])
    obtain ⟨hheld, hrequest, -⟩ := idle_of_outstanding ((h.2 m).quiet (by simp [hpace]))
    exact eitherOrder_counted (endTransfer_counted (h.but m) none ht hunit.kind hunit.fit hheld hrequest
      (ends_from_pace (h.2 m) ht hpace ho))

/-! ### Lines -/

/-- A line whose pulses stay. -/
theorem setLine_still {n : LineIndex} {v : PacingLine} (hp : v.pulses = (s.line n).pulses)
    (hb : v.pulsesBefore = (s.line n).pulsesBefore) : Still s (s.setLine n v) where
  movers := rfl
  lines k := by
    by_cases hk : k = n
    · subst hk
      rw [setLine_line]
      exact ⟨hp, hb⟩
    · rw [setLine_line_ne s hk]
      exact ⟨rfl, rfl⟩
  grant := rfl
  surfaces _ := rfl

theorem setLine_counted (h : Counted b s) {n : LineIndex} {v : PacingLine} (hp : v.pulses = (s.line n).pulses)
    (hb : v.pulsesBefore = (s.line n).pulsesBefore) : Counted b (s.setLine n v) :=
  h.frame (setLine_still hp hb) rfl

theorem setRequest_counted (h : Counted b s) (n : LineIndex) (active : Bool) : Counted b (s.setRequest n active) :=
  setLine_counted h rfl rfl

/-- A request admits the unit at which the bound mover stands (R102). -/
theorem requestRises_counted (h : Counted s s) (hb : BindingSound s) (n : LineIndex) : Counted s (s.requestRises n) := by
  have hset := setRequest_counted h n true
  unfold State.requestRises
  dsimp only
  split
  · next m hwait hbound =>
    obtain ⟨t, ht, hline, hpace⟩ := bound_paces hb hbound (.inl hwait)
    have hpace' : ((s.setRequest n true).mover m).state = .pace := hpace
    have hunit : AtUnit (s.setRequest n true) m t := (hset.2 m).atUnit ht (by rw [hpace']; decide)
    have hclear : outstanding (s.setRequest n true) m = [] := (hset.2 m).quiet (by rw [hpace']; decide)
    have hmine : ((s.setRequest n true).mover m).transfer.bind Entry.line = some n :=
      (congrArg (fun x => Option.bind x Entry.line) ht).trans hline
    exact ((hset.but m).work (admitBurst_work _ m hmine)).with
      (admitBurst_counted hunit hclear hline ((hset.2 m).pace_pulsed ht hpace))
  · exact hset

theorem requestFalls_counted (h : Counted b s) (n : LineIndex) : Counted b (s.requestFalls n) := by
  unfold State.requestFalls
  dsimp only
  split
  · exact setLine_counted (setRequest_counted h n false) rfl rfl
  · exact setRequest_counted h n false

theorem endEdge_counted (h : Counted s s) (hb : BindingSound s) (n : LineIndex) : Counted s (s.endEdge n) := by
  unfold State.endEdge
  split
  · exact h
  · exact setLine_counted h rfl rfl
  · next hstate => exact endFromLine_counted h hb (.inl hstate) (by simp)
  · next hstate => exact endFromLine_counted h hb (.inr hstate) (by simp)

theorem timerExpires_counted (h : Counted s s) (hb : BindingSound s) (n : LineIndex) : Counted s (s.timerExpires n) := by
  unfold State.timerExpires
  split
  · next hexpired =>
    refine endFromLine_counted h hb ?_ (by simp)
    simp only [PacingLine.expired, Bool.and_eq_true, Bool.or_eq_true, beq_iff_eq] at hexpired
    exact hexpired.1.1
  · exact h

theorem timeTick_counted (h : Counted b s) : Counted b s.timeTick := by
  unfold State.timeTick
  split
  · exact h
  · refine h.frame ⟨rfl, fun n => ?_, rfl, fun _ => rfl⟩ rfl
    simp only [State.line, Fin.getElem_fin, Vector.getElem_ofFn]
    unfold PacingLine.tick
    split <;> exact ⟨rfl, rfl⟩

/-! ### The list reader -/

/-- A list reader that goes leaves the movers' bursts where they are (R143). -/
theorem disownReader_counted (h : Counted b s) : Counted s (s.disown .reader) := by
  unfold State.disown
  split
  · rename_i g hg
    split
    · next howner =>
      have hother (k : MoverIndex) : ¬ (g.live = true ∧ g.owner = .mover k) := by simp [howner]
      have hnone (k : MoverIndex) : heldBursts { s with grant := some { g with live := false } } k = [] := by simp [heldBursts]
      refine h.kept (fun k => .of_arbiter rfl rfl rfl ?_ (.inl (hnone k))) (fun e he => ?_) (by simp [hg])
      · rw [pending, pending, held_of_other hg (hother k), hnone]
        rfl
      · exact (SameSurfaces.of_eq (by rfl) e).fit (h.1.queue e he)
    · exact h.here
  · exact h.here

theorem stopList_counted (h : Counted s s) : AllCounted s.stopList := by
  unfold State.stopList
  split
  · exact ⟨s, h⟩
  all_goals exact ⟨_, disownReader_counted (endList_counted h _ _)⟩

theorem startList_counted (h : Counted s s) : Counted s s.startList := by
  unfold State.startList
  split
  · exact result_counted h _ _
  · split
    · exact result_counted h _ _
    · refine result_counted (requestBurst_reader_counted ?_ _) _ _
      exact h.frame (.of_eq rfl rfl rfl rfl) rfl

theorem stopListCommand_counted (h : Counted s s) : AllCounted s.stopListCommand := by
  unfold State.stopListCommand
  split
  · exact ⟨s, result_counted h _ _⟩
  all_goals
    obtain ⟨c, hc⟩ := stopList_counted h
    exact ⟨c, result_counted hc _ _⟩

theorem foldl_returnRefs_still (q : List Entry) (s : State) : Still s (q.foldl State.returnRefs s) := by
  induction q generalizing s with
  | nil => exact .of_eq rfl rfl rfl rfl
  | cons e q ih => exact (returnRefs_still s e).trans (ih _)

theorem flushQueue_counted (h : Counted s s) : AllCounted s.flushQueue := by
  have hreturned := foldl_returnRefs_still s.queue s
  unfold State.flushQueue
  dsimp only
  generalize s.queue.foldl State.returnRefs s = u at hreturned ⊢
  have hempty : Counted s ({ u with queue := [] }.setWait .none false) :=
    h.still ⟨hreturned.movers, hreturned.lines, hreturned.grant, hreturned.surfaces⟩ (by simp)
  obtain ⟨c, hc⟩ := stopList_counted hempty.here
  refine ⟨c, result_counted (hc.frame (raiseIf_still _ _ _) ?_) _ _⟩
  obtain ⟨_, hr⟩ := raiseIf_causes_only (State.stopList ({ u with queue := [] }.setWait .none false))
    (s.freeSlots < s.lowWater) .lowWater
  rw [hr]

/-! ### The surface table and the registers -/

/-- An entry that is held names no FREE surface (R14, R16). -/
theorem held_notFree (hl : LifeCycleSound s) {e : Entry} (he : e ∈ s.queue ∨ ∃ m, e ∈ (s.mover m).transfer) {i : SurfaceIndex}
    (hi : i ∈ e.surfaces) : (s.surface i).state ≠ .free := by
  obtain ⟨hcount, hfree, -⟩ := hl
  intro hstate
  have hnone := (hcount i).symm.trans (hfree i hstate)
  obtain ⟨hqueue, hflight⟩ := Nat.add_eq_zero_iff.mp hnone
  rw [List.countP_eq_zero] at hqueue hflight
  rcases he with he | ⟨m, he⟩
  · exact hqueue e he (by simpa using hi)
  · exact hflight e (mem_inFlight he) (by simpa using hi)

/-- A change of the surface table that leaves what is held described as before. -/
theorem table_counted {t : State} (h : Counted b s) (hm : t.movers = s.movers) (hline : t.lines = s.lines) (hg : t.grant = s.grant)
    (hq : t.queue = s.queue)
    (hs : ∀ e, (e ∈ s.queue ∨ ∃ m, e ∈ (s.mover m).transfer) → SameSurfaces e s t) : Counted b t := by
  refine h.kept (fun k => ⟨by rw [mover_congr hm], ?_, ?_, fun _ _ n _ => by rw [line_congr hline]; exact ⟨rfl, rfl⟩,
    fun e he => hs e (.inr ⟨k, he⟩)⟩) (fun e he => ?_) fun hb => by rw [hg]; exact h.1.fresh hb
  · rw [outstanding_eq, outstanding_eq, heldBursts_congr hg, mover_congr hm]
  · rw [heldBursts_congr hg, mover_congr hm]
    exact (h.2 k).tidy
  · rw [hq] at he
    exact (hs e (.inl he)).fit (h.1.queue e he)

theorem defineSurface_counted (h : Counted b s) (hl : LifeCycleSound s) (k : BitVec 8) : Counted b (s.defineSurface k) := by
  obtain ⟨hq, hm⟩ := defineSurface_holds s k
  have hrest : (s.defineSurface k).lines = s.lines ∧ (s.defineSurface k).grant = s.grant := by
    unfold State.defineSurface
    dsimp only
    repeat' split
    all_goals exact ⟨rfl, rfl⟩
  refine table_counted h hm hrest.1 hrest.2 hq fun e he i hi => ?_
  rcases defineSurface_surface s k i with hk | ⟨hchecks, -⟩
  · rw [hk]
  · simp only [defineRefusal, check_eq_none, not_not] at hchecks
    exact absurd hchecks.1 (held_notFree hl he hi)

theorem releaseSurface_counted (h : Counted b s) (k : BitVec 8) : Counted b (s.releaseSurface k) := by
  obtain ⟨hq, hm⟩ := releaseSurface_holds s k
  have hrest : (s.releaseSurface k).lines = s.lines ∧ (s.releaseSurface k).grant = s.grant := by
    unfold State.releaseSurface
    dsimp only
    repeat' split
    all_goals exact ⟨rfl, rfl⟩
  refine table_counted h hm hrest.1 hrest.2 hq fun e _ i _ => ?_
  rcases releaseSurface_surface s k i with hk | ⟨-, -, hk⟩ | ⟨-, -, hk⟩ <;> rw [hk] <;> rfl

theorem writePlain_counted (h : Counted b s) (offset : Offset) (v : Word) : Counted b (s.writePlain offset v) := by
  unfold State.writePlain
  dsimp only
  iterate 5
    split
    · exact h.frame (.of_eq rfl rfl rfl rfl) rfl
  split
  · exact setLine_counted h rfl rfl
  · exact h

end Commands

/-! ### Every command -/

/-- Sound counts as they stand: nothing is held. -/
theorem counts_of_empty {t : State} (hq : t.queue = []) (hm : ∀ m, t.mover m = Mover.idle) : CountsSound t := by
  refine ⟨by simp [hq], fun m e he => ?_⟩
  rw [hm m] at he
  cases he

theorem AllCounted.counts {t : State} (h : AllCounted t) : CountsSound t := by
  obtain ⟨b, ⟨hqueue, -, -⟩, hmovers⟩ := h
  refine ⟨fun e he => (hqueue e he).entry, fun m e he => ?_⟩
  obtain ⟨-, -, hfit, hprogress, hpulses⟩ := (hmovers m).transfer e he
  exact ⟨hfit.entry, hprogress, hpulses⟩

/-- Sound counts with a sound engine are accounts. -/
theorem counted_of_sound {s : State} (hlegal : SurfacesLegal s) (hl : LifeCycleSound s) (he : EngineSound s)
    (hc : CountsSound s) : Counted s s := by
  obtain ⟨hqueue, htransfers⟩ := hc
  obtain ⟨hmovers, -, -, -, hport, -, -, hshare⟩ := he
  obtain ⟨-, -, -, -, hgrant⟩ := hport
  have hfit (e : Entry) (hheld : e ∈ s.queue ∨ ∃ m, e ∈ (s.mover m).transfer) (hentry : EntrySound s e) : Fit s e :=
    ⟨hentry, fun i hi => hlegal i (held_notFree hl hheld hi)⟩
  have hapart (a c : Entry) (n : LineIndex) (ha : a ∈ (s.mover 0).transfer) (hcc : c ∈ (s.mover 1).transfer) :
      ¬ (a.line = some n ∧ c.line = some n) := fun hlines => by
    have := hshare a ha c hcc
    simp [Entry.sharesLine, hlines.1, hlines.2] at this
  have hlive (m : MoverIndex) (hheld : heldBursts s m ≠ []) :
      (s.mover m).request = none ∧ (s.mover m).state = .run := by
    cases hg : s.grant with
    | none => exact absurd (heldBursts_free hg m) hheld
    | some g =>
      have howned : g.live = true ∧ g.owner = .mover m := by
        by_contra hn
        exact hheld (held_of_other hg hn)
      obtain ⟨-, -, hwaiting, hrun, -⟩ := hgrant g (by simp [hg])
      have hrequest := hwaiting howned.1
      rw [howned.2] at hrequest
      exact ⟨hrequest, hrun m howned.1 howned.2⟩
  refine ⟨⟨fun e heq => hfit e (.inl heq) (hqueue e heq), fun j k hjk a ha c hcc n hn hcn => ?_,
    fun hnone g hg => by simp [hnone] at hg⟩, fun m => ⟨?_, fun hstate => ?_, fun t ht => ?_⟩⟩
  · rw [Option.mem_def] at hn
    have hpairs : ∀ j k : MoverIndex, j ≠ k → j = 0 ∧ k = 1 ∨ j = 1 ∧ k = 0 := by decide
    rcases hpairs j k hjk with ⟨rfl, rfl⟩ | ⟨rfl, rfl⟩
    · exact hapart a c n ha hcc ⟨hn, hcn⟩
    · exact hapart c a n hcc ha ⟨hcn, hn⟩
  · by_cases hheld : heldBursts s m = []
    · exact .inl hheld
    · exact .inr (hlive m hheld).1
  · obtain ⟨-, -, -, -, hquiet⟩ := hmovers m
    have hheld : heldBursts s m = [] := by
      by_contra hheld
      exact hstate (hlive m hheld).2
    rw [outstanding_eq, hheld, (hquiet hstate).1, (hquiet hstate).2]
    rfl
  · obtain ⟨hentry, hprogress, hpulses⟩ := htransfers m t ht
    obtain ⟨hidle, hbusy, -⟩ := hmovers m
    have hstate : (s.mover m).state ≠ .idle := fun hi => by
      rw [hidle hi] at ht
      cases ht
    obtain ⟨u, hu, hkind, -⟩ := hbusy hstate
    obtain rfl : u = t := Option.mem_unique hu ht
    exact ⟨hstate, hkind, hfit u (.inr ⟨m, ht⟩) hentry, hprogress, hpulses⟩

/-- Settles O35: each operation of the engine keeps the account of every mover but the one at work, and what the worker does
agrees with the units of its transfer. -/
theorem countsStaySound : Obligations.CountsStaySound := by
  intro i s t hlegal hl hsound hcounts he
  have h := counted_of_sound hlegal hl hsound hcounts
  obtain ⟨hmovers, -, hbinding, -⟩ := hsound
  have hengaged : Engaged s := fun m hm => by
    obtain ⟨-, hbusy, -⟩ := hmovers m
    obtain ⟨t, ht, -⟩ := hbusy (by simp [hm])
    exact ⟨t, ht⟩
  obtain ⟨j, hw, hj⟩ := exec_as_wellFormed i s
  rw [hj] at he
  have event {u : State} (hu : AllCounted u) : CountsSound (s.unlessReset u) :=
    (unlessReset_keeps (P := AllCounted) ⟨s, h⟩ hu).counts
  cases j <;> cases next_inj he
  case define k => exact event ⟨s, defineSurface_counted h hl k⟩
  case release k => exact event ⟨s, releaseSurface_counted h k⟩
  case resume => exact event ⟨s, resumeDispatch_counted h⟩
  case flush => exact event (flushQueue_counted h)
  case abortTag tag => exact event ⟨s, abortByTag_counted h tag⟩
  case listStart => exact event ⟨s, startList_counted h⟩
  case listStop => exact event (stopListCommand_counted h)
  case engineReset =>
    refine unlessReset_keeps (P := CountsSound) hcounts (counts_of_empty rfl fun m => ?_)
    simp [State.resetEngine, State.result, State.mover]
  case unknownCommand code operand =>
    rw [control_unknown hw]
    exact event ⟨s, result_counted h _ _⟩
  case post => exact event ⟨s, postStaged_counted h hlegal⟩
  case completionPop => exact event ⟨s, popCompletion_counted h⟩
  case intCauseWrite v => exact event ⟨s, h.frame (.of_eq rfl rfl rfl rfl) rfl⟩
  case intEnableWrite v => exact event ⟨s, h.frame (.of_eq rfl rfl rfl rfl) rfl⟩
  case freedSetWrite v => exact event ⟨s, h.frame (.of_eq rfl rfl rfl rfl) rfl⟩
  case statusWrite v =>
    refine event ⟨s, ?_⟩
    unfold State.writeStatus
    split
    · exact h.frame (.of_eq rfl rfl rfl rfl) rfl
    · exact h
  case timeBaseWrite v => exact event ⟨s, h.frame (.of_eq rfl rfl rfl rfl) rfl⟩
  case registerWrite offset v =>
    rw [writeWord_plain (by simpa [Instr.wellFormed] using hw)]
    exact event ⟨s, writePlain_counted h _ _⟩
  case nonWordAccess access offset enables =>
    rw [if_neg (by simpa [Instr.wellFormed] using hw)]
    exact event ⟨s, h.frame (.of_eq rfl rfl rfl rfl) rfl⟩
  case fullReset =>
    refine counts_of_empty rfl fun m => ?_
    simp [State.resetFull, State.reset, State.mover]
  case resetRelease =>
    refine AllCounted.counts ⟨s, ?_⟩
    unfold State.leaveReset
    split
    · exact h.frame (.of_eq rfl rfl rfl rfl) rfl
    · exact h
  case preqActive n =>
    split
    · exact AllCounted.counts ⟨s, setRequest_counted h n true⟩
    · exact AllCounted.counts ⟨s, requestRises_counted h hbinding n⟩
  case preqInactive n =>
    split
    · exact AllCounted.counts ⟨s, setRequest_counted h n false⟩
    · exact AllCounted.counts ⟨s, requestFalls_counted h n⟩
  case pendFall n => exact event ⟨s, endEdge_counted h hbinding n⟩
  case tick => exact event ⟨s, timeTick_counted h⟩
  case timerExpiry n => exact event ⟨s, timerExpires_counted h hbinding n⟩
  case beatAnswered d => exact event (answerBeat_counted h hengaged hlegal d)
  case beatError => exact event (failBeat_counted h hengaged)
  case waitSpacePresentation => exact event ⟨s, presentAgain_counted h hlegal⟩

end Sys2Proof.Machine
end

section
/-! One event of the engine and what the dispatcher, the posters and the list reader see of it: most operations are calm, and the
rest are few. What keeps a property through these keeps it through every command. -/

namespace Sys2Proof.Machine

open Sys2Proof.Safety

/-! ### Calm changes -/

/-- A mover at work: in RUN or PACE, with a transfer (R73). -/
def Busy (mv : Mover) : Prop :=
  (mv.state = .run ∨ mv.state = .pace) ∧ mv.transfer.isSome

/-- The mover has kept transfer and outcome, and its state but for RUN and PACE. -/
structure MoverCalm (v w : Mover) : Prop where
  transfer : w.transfer = v.transfer
  outcome : w.outcome = v.outcome
  state : w.state = v.state ∨ ((v.state = .run ∨ v.state = .pace) ∧ (w.state = .run ∨ w.state = .pace))

theorem MoverCalm.refl (v : Mover) : MoverCalm v v := ⟨rfl, rfl, .inl rfl⟩

theorem MoverCalm.of_items {v w : Mover} (ht : w.transfer = v.transfer) (ho : w.outcome = v.outcome) (hs : w.state = v.state) :
    MoverCalm v w :=
  ⟨ht, ho, .inl hs⟩

theorem MoverCalm.of_eq {v w : Mover} (h : w = v) : MoverCalm v w := h ▸ .refl v

theorem MoverCalm.idle_iff {v w : Mover} (h : MoverCalm v w) : w.state = .idle ↔ v.state = .idle := by
  rcases h.state with hs | ⟨hv | hv, hw | hw⟩ <;> simp [*]

theorem MoverCalm.post_iff {v w : Mover} (h : MoverCalm v w) : w.state = .post ↔ v.state = .post := by
  rcases h.state with hs | ⟨hv | hv, hw | hw⟩ <;> simp [*]

theorem MoverCalm.trans {u v w : Mover} (h : MoverCalm u v) (k : MoverCalm v w) : MoverCalm u w := by
  refine ⟨k.transfer.trans h.transfer, k.outcome.trans h.outcome, ?_⟩
  rcases h.state with hs | ⟨hu, hv⟩
  · exact hs ▸ k.state
  · rcases k.state with ks | ⟨-, hw⟩
    · exact .inr ⟨hu, ks ▸ hv⟩
    · exact .inr ⟨hu, hw⟩

theorem MoverCalm.busy {v w : Mover} (h : MoverCalm v w) (hv : Busy v) : Busy w := by
  obtain ⟨hstate, htransfer⟩ := hv
  refine ⟨?_, h.transfer ▸ htransfer⟩
  rcases h.state with hs | ⟨-, hw⟩
  · exact hs ▸ hstate
  · exact hw

/-- Nothing that the dispatcher acts on has changed: queue, dispatcher, records, and, where the movers are `watched`, what they
hold; and no list reader has come to wait for space with nothing due. -/
structure Undisturbed (watched : Prop) (s t : State) : Prop where
  queue : t.queue = s.queue
  dispatcher : t.dispatcher = s.dispatcher
  completions : t.completions = s.completions
  sequence : t.sequence = s.sequence
  mover : watched → ∀ m, MoverCalm (s.mover m) (t.mover m)
  reader : t.reader.state = .waitSpace → t.reader.due = false → s.reader.state = .waitSpace ∧ s.reader.due = false

/-- A calm change also leaves the configuration of the lines. -/
structure Calm (watched : Prop) (s t : State) : Prop extends Undisturbed watched s t where
  settings : SettingsKept s t

section Calmness

variable {w : Prop} (s : State) (m : MoverIndex) (n : LineIndex)

theorem Undisturbed.of_eq {s t : State} (hq : t.queue = s.queue) (hd : t.dispatcher = s.dispatcher)
    (hc : t.completions = s.completions) (hn : t.sequence = s.sequence) (hm : t.movers = s.movers)
    (hr : t.reader = s.reader) : Undisturbed w s t :=
  ⟨hq, hd, hc, hn, fun _ m => .of_eq (mover_congr hm m), fun h k => by rw [← hr]; exact ⟨h, k⟩⟩

theorem Calm.of_eq {s t : State} (hq : t.queue = s.queue) (hd : t.dispatcher = s.dispatcher)
    (hc : t.completions = s.completions) (hn : t.sequence = s.sequence) (hm : t.movers = s.movers)
    (hr : t.reader = s.reader) (hl : t.lines = s.lines) : Calm w s t :=
  ⟨.of_eq hq hd hc hn hm hr, .of_lines hl⟩

theorem Calm.refl : Calm w s s := .of_eq rfl rfl rfl rfl rfl rfl rfl

theorem Undisturbed.trans {s t u : State} (h : Undisturbed w s t) (k : Undisturbed w t u) : Undisturbed w s u where
  queue := k.queue.trans h.queue
  dispatcher := k.dispatcher.trans h.dispatcher
  completions := k.completions.trans h.completions
  sequence := k.sequence.trans h.sequence
  mover hw m := (h.mover hw m).trans (k.mover hw m)
  reader hs hd := by
    obtain ⟨hs, hd⟩ := k.reader hs hd
    exact h.reader hs hd

theorem Calm.trans {s t u : State} (h : Calm w s t) (k : Calm w t u) : Calm w s u :=
  ⟨h.toUndisturbed.trans k.toUndisturbed, h.settings.trans k.settings⟩

theorem Calm.busy {s t : State} (h : Calm w s t) {m : MoverIndex} (hb : w → Busy (s.mover m)) : w → Busy (t.mover m) :=
  fun hw => (h.mover hw m).busy (hb hw)

theorem setMover_calm {v : Mover} (h : w → MoverCalm (s.mover m) v) : Calm w s (s.setMover m v) := by
  refine ⟨⟨rfl, rfl, rfl, rfl, fun hw k => ?_, fun hs hd => ⟨hs, hd⟩⟩, .of_lines rfl⟩
  by_cases hk : k = m
  · rw [hk, setMover_mover]
    exact h hw
  · exact .of_eq (setMover_mover_ne s hk v)

theorem setLine_calm {v : PacingLine} (hm : v.mode = (s.line n).mode) (ht : v.timeout = (s.line n).timeout) :
    Calm w s (s.setLine n v) :=
  ⟨.of_eq rfl rfl rfl rfl rfl rfl, setLine_settings s n hm ht⟩

/-- A list reader that is not made to wait for space. -/
theorem setReader_calm {r : ListReader} (h : r.state = .waitSpace → r.state = s.reader.state ∧ r.due = s.reader.due) :
    Calm w s { s with reader := r } := by
  refine ⟨⟨rfl, rfl, rfl, rfl, fun _ m => .refl _, fun hs hd => ?_⟩, .of_lines rfl⟩
  obtain ⟨hstate, hdue⟩ := h hs
  exact ⟨hstate ▸ hs, hdue ▸ hd⟩

theorem raiseIf_calm (b : Bool) (c : Cause) : Calm w s (s.raiseIf b c) := by
  obtain ⟨_, h⟩ := raiseIf_causes_only s b c
  rw [h]
  exact .of_eq rfl rfl rfl rfl rfl rfl rfl

theorem result_calm (c : ResultCode) (v : Nat) : Calm w s (s.result c v) := .of_eq rfl rfl rfl rfl rfl rfl rfl

/-! ### The master port -/

theorem setWaiting_calm (r : Requester) (b : Option Burst) : Calm w s (s.setWaiting r b) := by
  cases r with
  | mover m => exact setMover_calm s m fun _ => .of_items rfl rfl rfl
  | reader => exact setReader_calm s fun _ => ⟨rfl, rfl⟩

theorem grantTo_calm (r : Requester) (b : Burst) : Calm w s (s.grantTo r b) := .of_eq rfl rfl rfl rfl rfl rfl rfl

theorem requestBurst_calm (r : Requester) (b : Burst) : Calm w s (s.requestBurst r b) := by
  unfold State.requestBurst
  split
  · exact grantTo_calm s r b
  · exact setWaiting_calm s r _

theorem releasePort_calm : Calm w s s.releasePort := by
  have hfree : Calm w s { s with grant := none } := .of_eq rfl rfl rfl rfl rfl rfl rfl
  unfold State.releasePort
  dsimp only
  split
  · exact hfree
  · split
    · exact hfree
    · exact (hfree.trans (setWaiting_calm _ _ _)).trans (grantTo_calm _ _ _)

theorem eitherOrder_calm (t : State) : Calm w t (s.eitherOrder t) := by
  have hdraw : Calm w t { t with draws := t.draws + 1 } := .of_eq rfl rfl rfl rfl rfl rfl rfl
  have hgranted (u : State) (r : Requester) (b : Burst) : Calm w u ({ u with rotation := s.rotation }.grantTo r b) :=
    .of_eq rfl rfl rfl rfl rfl rfl rfl
  unfold State.eitherOrder
  split
  · split
    · exact .refl t
    · dsimp only
      split
      · exact ((hdraw.trans (setWaiting_calm _ _ _)).trans (setWaiting_calm _ _ _)).trans (hgranted _ _ _)
      · exact hdraw
  · exact .refl t

theorem disown_calm (r : Requester) : Calm w s (s.disown r) := by
  rw [disown_eq]
  exact .of_eq rfl rfl rfl rfl rfl rfl rfl

theorem takeData_calm (r : Requester) (write : Bool) (b : Beat) (d : Word) : Calm w s (s.takeData r write b d) := by
  unfold State.takeData
  split
  · exact .refl s
  · split
    · exact setMover_calm s _ fun _ => .of_items rfl rfl rfl
    · exact setReader_calm s fun _ => ⟨rfl, rfl⟩

/-! ### Movers and lines -/

theorem launch_calm (bursts : List Burst) : Calm w s (s.launch m bursts) := by
  cases bursts with
  | nil => exact setMover_calm s m fun _ => .of_items rfl rfl rfl
  | cons b bs =>
    exact (setMover_calm s m (v := (s.mover m).queued bs) fun _ => .of_items rfl rfl rfl).trans (requestBurst_calm _ _ b)

theorem startUnit_calm : Calm w s (s.startUnit m) := by
  unfold State.startUnit
  dsimp only
  split
  · exact .refl s
  · split
    · exact (setMover_calm s m (v := (s.mover m).beginUnit .write) fun _ => .of_items rfl rfl rfl).trans (launch_calm _ m _)
    · exact (setMover_calm s m (v := (s.mover m).beginUnit .read) fun _ => .of_items rfl rfl rfl).trans (launch_calm _ m _)

section Working

variable (hbusy : w → Busy (s.mover m))

include hbusy

theorem inState_calm {st : MoverState} (hst : st = .run ∨ st = .pace) : Calm w s (s.setMover m ((s.mover m).inState st)) :=
  setMover_calm s m fun hw => ⟨rfl, rfl, .inr ⟨(hbusy hw).1, hst⟩⟩

theorem admitBurst_calm : Calm w s (s.admitBurst n m) :=
  ((setLine_calm s n (v := (s.line n).admitting) rfl rfl).trans (inState_calm _ m (by exact hbusy) (.inl rfl))).trans
    (startUnit_calm _ m)

theorem waitIn_calm (st : LineState) : Calm w s (s.waitIn n m st) :=
  (setLine_calm s n (v := (s.line n).inState st) rfl rfl).trans (inState_calm _ m (by exact hbusy) (.inr rfl))

theorem bind_calm : Calm w s (s.bind n m) := by
  unfold State.bind
  dsimp only
  split
  · exact (setLine_calm s n (v := (s.line n).bindTo m) rfl rfl).trans (admitBurst_calm _ m n (by exact hbusy))
  · exact (setLine_calm s n (v := ((s.line n).bindTo m).loadTimer) rfl rfl).trans (waitIn_calm _ m n (by exact hbusy) _)

theorem burstContinues_calm : Calm w s (s.burstContinues n m) := by
  unfold State.burstContinues
  dsimp only
  refine (setLine_calm s n (v := (s.line n).burstOver) rfl rfl).trans ?_
  split
  · exact admitBurst_calm _ m n (by exact hbusy)
  all_goals exact waitIn_calm _ m n (by exact hbusy) _

end Working

/-- The mover that takes a head is at work. -/
theorem take_busy (e : Entry) : Busy (Mover.take e) := by
  refine ⟨?_, rfl⟩
  unfold Mover.take
  dsimp only
  split
  · exact .inr rfl
  · exact .inl rfl

/-- An issue is the removal of the head, its transfer taken, and calm work on it (R66). -/
theorem issue_calm (e : Entry) : Calm w (s.removeHead.setMover m (Mover.take e)) (s.issue e m) := by
  have hbusy : w → Busy ((s.removeHead.setMover m (Mover.take e)).mover m) := fun _ => by
    rw [setMover_mover]
    exact take_busy e
  unfold State.issue
  dsimp only
  split
  · exact startUnit_calm _ m
  · exact bind_calm _ m _ hbusy

/-! ### The list reader -/

theorem endList_calm (why : EndReason) (r : Option Reason) : Calm w s (s.endList why r) :=
  (setReader_calm s (r := s.reader.over why r) nofun).trans (.of_eq rfl rfl rfl rfl rfl rfl rfl)

theorem enterFetch_calm (a : Word) : Calm w s (s.enterFetch a) :=
  setReader_calm s (r := s.reader.fetching a) nofun

theorem stopList_calm : Calm w s s.stopList := by
  unfold State.stopList
  split
  · exact .refl s
  all_goals exact (endList_calm s _ _).trans (disown_calm _ _)

theorem startList_calm : Calm w s s.startList := by
  unfold State.startList
  split
  · exact result_calm s _ _
  · split
    · exact result_calm s _ _
    · dsimp only
      have hclear := setReader_calm (w := w) s
        (r := { s.reader with count := 0, endReason := .none, refusal := none, stopAddress := 0 }) fun _ => ⟨rfl, rfl⟩
      exact ((hclear.trans (enterFetch_calm _ _)).trans (requestBurst_calm _ _ _)).trans (result_calm _ _ _)

theorem stopListCommand_calm : Calm w s s.stopListCommand := by
  unfold State.stopListCommand
  split
  · exact result_calm s _ _
  all_goals exact (stopList_calm s).trans (result_calm _ _ _)

/-! ### Registers, lines and the surface table -/

theorem defineSurface_calm (k : BitVec 8) : Calm w s (s.defineSurface k) := by
  unfold State.defineSurface
  dsimp only
  repeat' split
  all_goals exact .of_eq rfl rfl rfl rfl rfl rfl rfl

theorem releaseSurface_calm (k : BitVec 8) : Calm w s (s.releaseSurface k) := by
  unfold State.releaseSurface
  dsimp only
  repeat' split
  all_goals exact .of_eq rfl rfl rfl rfl rfl rfl rfl

theorem writeStatus_calm (v : Word) : Calm w s (s.writeStatus v) := by
  unfold State.writeStatus
  split
  · exact .of_eq rfl rfl rfl rfl rfl rfl rfl
  · exact .refl s

theorem leaveReset_calm : Calm w s s.leaveReset := by
  unfold State.leaveReset
  split
  · exact .of_eq rfl rfl rfl rfl rfl rfl rfl
  · exact .refl s

theorem setRequest_calm (active : Bool) : Calm w s (s.setRequest n active) := setLine_calm s n rfl rfl

theorem requestFalls_calm : Calm w s (s.requestFalls n) := by
  unfold State.requestFalls
  dsimp only
  split
  · exact (setRequest_calm s n false).trans (setLine_calm _ n rfl rfl)
  · exact setRequest_calm s n false

/-- A tick changes no configuration. -/
theorem tick_settings (l : PacingLine) : l.tick.mode = l.mode ∧ l.tick.timeout = l.timeout := by
  unfold PacingLine.tick
  split <;> exact ⟨rfl, rfl⟩

theorem timeTick_calm : Calm w s s.timeTick := by
  unfold State.timeTick
  split
  · exact .refl s
  · refine ⟨.of_eq rfl rfl rfl rfl rfl rfl, fun n => ?_⟩
    have hline : State.line { s with lines := Vector.ofFn fun n => (s.line n).tick, divider := some s.timeBase } n
        = (s.line n).tick := by simp [State.line]
    rw [hline]
    exact tick_settings (s.line n)

theorem writePlain_undisturbed (offset : Offset) (v : Word) : Undisturbed w s (s.writePlain offset v) := by
  unfold State.writePlain
  dsimp only
  repeat' split
  all_goals exact .of_eq rfl rfl rfl rfl rfl rfl

end Calmness

end Sys2Proof.Machine
end

section
/-! What keeps a property through every command: the operations of one event that are not calm, each once. -/

namespace Sys2Proof.Machine

open Sys2Proof.Safety

theorem firstRefusal_mem {checks : List Check} {r : Reason} (h : firstRefusal checks = some r) :
    ∃ k ∈ checks, k.refuses = true ∧ k.reason = r := by
  obtain ⟨k, hk, hr⟩ := Option.map_eq_some_iff.mp h
  exact ⟨k, List.mem_of_find?_eq_some hk, by simpa using List.find?_some hk, hr⟩

theorem verdictOf_refused {r : Option Reason} {e : Entry} {q : Reason} : verdictOf r e = .refused q ↔ r = some q := by
  cases r <;> simp [verdictOf]

/-- FULL is the refusal of a full command queue (R43, R47). -/
theorem verdict_full {s : State} {c : Command} (h : s.verdict c = .refused .full) : 16 ≤ s.queue.length := by
  unfold State.verdict at h
  split at h
  · rename_i r hr
    cases h
    obtain ⟨k, hk, hrefuses, hreason⟩ := firstRefusal_mem hr
    simp only [State.commandChecks, State.nameChecks, List.mem_append, List.mem_cons, List.not_mem_nil, or_false] at hk
    rcases hk with (rfl | rfl | rfl) | rfl | rfl | rfl <;> cases hreason
    exact of_decide_eq_true hrefuses
  · have hmove (a b : NamedSide) : firstRefusal (moveChecks c a b) ≠ some .full := fun hr => by
      obtain ⟨k, hk, -, hreason⟩ := firstRefusal_mem hr
      simp only [moveChecks, List.mem_cons, List.not_mem_nil, or_false] at hk
      rcases hk with rfl | rfl | rfl | rfl | rfl | rfl | rfl <;> cases hreason
    have hfill (b : NamedSide) : firstRefusal (fillChecks c b) ≠ some .full := fun hr => by
      obtain ⟨k, hk, -, hreason⟩ := firstRefusal_mem hr
      simp only [fillChecks, List.mem_cons, List.not_mem_nil, or_false] at hk
      rcases hk with rfl | rfl <;> cases hreason
    unfold State.sideVerdict at h
    split at h
    case h_1 => cases h
    case h_2 => cases h
    case h_3 =>
      split at h
      · cases h
      · exact absurd (verdictOf_refused.mp h) (hfill _)
    case h_4 =>
      split at h
      · exact absurd (verdictOf_refused.mp h) (hmove _ _)
      · cases h

/-- An accepted command finds the queue with a free entry (R43, R47). -/
theorem verdict_accepted_room {s : State} {c : Command} {e : Entry} (h : s.verdict c = .accepted e) : s.queue.length < 16 := by
  have hroom := (verdict_accepted h).1 { refuses := Config.queueCapacity ≤ s.queue.length, reason := .full } (by
    simp [State.commandChecks])
  exact Nat.lt_of_not_le (of_decide_eq_false hroom)

/-- The movers that an event can find at work are: the owner of a burst in progress, and the mover of a line that waits. -/
structure Ready (s : State) : Prop where
  owner : ∀ g ∈ s.grant, g.live = true → ∀ m, g.owner = .mover m → Busy (s.mover m)
  bound : ∀ n m, (s.line n).bound = some m → (s.line n).state = .wait ∨ (s.line n).state = .waitLow → Busy (s.mover m)

theorem ready_of_sound {s : State} (h : EngineSound s) : Ready s := by
  obtain ⟨hmovers, -, hbinding, -, ⟨-, -, -, -, hgrant⟩, -⟩ := h
  refine ⟨fun g hg hlive m howner => ?_, fun n m hbound hstate => ?_⟩
  · obtain ⟨-, -, -, hrun, -⟩ := hgrant g hg
    have hrun := hrun m hlive howner
    obtain ⟨-, hbusy, -⟩ := hmovers m
    obtain ⟨t, ht, -⟩ := hbusy (by simp [hrun])
    exact ⟨.inl hrun, by simp [Option.mem_def.mp ht]⟩
  · obtain ⟨t, ht, -, hpace⟩ := bound_paces hbinding hbound hstate
    exact ⟨.inr hpace, by simp [ht]⟩

/-- The dispatcher back in RUN with an empty fault record (R157). -/
def State.running (s : State) : State :=
  { s with dispatcher := { s.dispatcher with halted := false, fault := none } }

/-! ### What the operations that are not calm change -/

section Operations

variable (s : State) (m : MoverIndex) (e : Entry)

/-- A mover that has a record to post, and a slot for it (R94, R121). -/
def Postable : Prop :=
  (s.mover m).state = .post ∧ (s.mover m).transfer.isSome ∧ (s.mover m).outcome.isSome ∧ s.hasSlot = true

/-- A mover in POST posts its record and is IDLE, or nothing happens (R94, R121). -/
theorem serveMover_cases :
    (s.serveMover m = s ∧ ¬ Postable s m)
      ∨ Postable s m ∧ ∃ t o sf fs ca, (s.mover m).transfer = some t ∧ (s.mover m).outcome = some o
          ∧ s.serveMover m = { s.setMover m Mover.idle with
              completions := s.completions ++ [{ moverRecord m (s.mover m) t o with sequence := s.sequence }]
              sequence := s.sequence + 1, surfaces := sf, freedSet := fs, causes := ca } := by
  unfold State.serveMover Postable
  dsimp only
  split
  · rename_i t o ht ho
    split
    · rename_i hpost
      refine .inr ⟨⟨hpost.1, by simp [ht], by simp [ho], hpost.2⟩, ?_⟩
      obtain ⟨_, hr⟩ := appendRecord_only s (moverRecord m (s.mover m) t o)
      obtain ⟨_, _, _, hrefs⟩ := returnRefs_refsOnly
        ((s.appendRecord (moverRecord m (s.mover m) t o)).setMover m Mover.idle) t
      rw [hrefs, hr]
      exact ⟨t, o, _, _, _, ht, ho, rfl⟩
    · rename_i hpost
      exact .inl ⟨rfl, fun h => hpost ⟨h.1, h.2.2.2⟩⟩
  · rename_i hnone
    refine .inl ⟨rfl, fun ⟨_, htransfer, houtcome, _⟩ => ?_⟩
    obtain ⟨t, ht⟩ := Option.isSome_iff_exists.mp htransfer
    obtain ⟨o, ho⟩ := Option.isSome_iff_exists.mp houtcome
    exact hnone t o ht ho

/-- A report posts the head's record and removes it (R53, R59). -/
theorem report_only (o : Outcome) :
    ∃ sf fs ca, s.report e o = { s with
      completions := s.completions ++ [{ dispatcherRecord e o with sequence := s.sequence }]
      sequence := s.sequence + 1
      queue := s.queue.tail
      reader := { s.reader with due := s.reader.due || s.reader.state == .waitSpace }
      surfaces := sf, freedSet := fs, causes := ca } := by
  obtain ⟨ca, h, -⟩ := report_eq s e o
  obtain ⟨sf, fs, ca', hrefs⟩ := returnRefs_refsOnly
    { s with
      completions := s.completions ++ [{ dispatcherRecord e o with sequence := s.sequence }]
      sequence := s.sequence + 1
      queue := s.queue.tail
      reader := { s.reader with due := s.reader.due || s.reader.state == .waitSpace }
      causes := ca } e
  exact ⟨sf, fs, ca', h.trans hrefs⟩

theorem enqueue_only : ∃ table, s.enqueue e = { s with surfaces := table, queue := s.queue ++ [e] } := by
  obtain ⟨table, h⟩ := addRefs_only s e
  exact ⟨table, by rw [State.enqueue, h]⟩

/-- A FLUSH empties the queue and clears the wait (R159). -/
theorem flushed_only :
    ∃ sf fs ca, flushed s = { s with
      surfaces := sf, freedSet := fs, causes := ca, queue := []
      dispatcher := { s.dispatcher with waitReason := .none, slotRequest := false } } := by
  obtain ⟨sf, fs, ca, h⟩ := foldl_refsOnly _ returnRefs_refsOnly s.queue s
  exact ⟨sf, fs, ca, by rw [flushed, h]; rfl⟩

/-- The rest of a FLUSH is calm: the list stops, and LOW_WATER and the result are set (R145, R160). -/
theorem flushQueue_calm {w : Prop} : Calm w (flushed s) s.flushQueue :=
  (stopList_calm (flushed s)).trans ((raiseIf_calm _ _ _).trans (result_calm _ _ _))

end Operations

/-- How a property passes through one event: `A` before it, `Q` once a transfer may have ended, `P` after the postings and the
examination of the head. -/
structure EventKeeps (w : Prop) (A Q P : State → Prop) : Prop where
  calmBefore : ∀ {s t}, Calm w s t → A s → A t
  calmWithin : ∀ {s t}, Calm w s t → Q s → Q t
  calmAfter : ∀ {s t}, Calm w s t → P s → P t
  opens : ∀ {s}, A s → Q s
  closes : ∀ {s}, A s → P s
  finished : ∀ {s m} o f, (w → Busy (s.mover m)) → Q s → Q (s.finish m o f)
  captured : ∀ {s} r, A s → A (s.captureFault r)
  settled : ∀ {s}, Q s → P s.settle
  accepted : ∀ {s c e u}, s.verdict c = .accepted e → Calm w (s.enqueue e) u → A s → P (u.examineIf s.queue.isEmpty)
  held : ∀ {s} record, 16 ≤ s.queue.length → A s → P { s with reader := s.reader.holding record }
  resumed : ∀ {s}, s.dispatcher.halted = true → A s → P s.running.examine
  popped : ∀ {s r rest}, s.completions = r :: rest → A s →
    (s.completions.length < 32 → P { s with completions := rest })
      ∧ (32 ≤ s.completions.length → Q { s with completions := rest })

/-- The operations of an event that keep a property one by one. -/
structure StepKeeps (w : Prop) (I : State → Prop) : Prop where
  calm : ∀ {s t}, Calm w s t → I s → I t
  finished : ∀ {s m} o f, (w → Busy (s.mover m)) → I s → I (s.finish m o f)
  dispatcher : ∀ {s} d, I s → I { s with dispatcher := d }
  served : ∀ {s m}, I s → I (s.serveMover m)
  reported : ∀ {s e q} o, s.queue = e :: q → s.hasSlot = true → I s → I (s.report e o)
  issued : ∀ {s e q m}, s.queue = e :: q → s.decision e = .issue m → I s → I (s.removeHead.setMover m (Mover.take e))
  enqueued : ∀ {s c e}, s.verdict c = .accepted e → I s → I (s.enqueue e)
  held : ∀ {s} record, 16 ≤ s.queue.length → I s → I { s with reader := s.reader.holding record }
  popped : ∀ {s r rest}, s.completions = r :: rest → I s → I { s with completions := rest }

section Steps

variable {w : Prop} {I : State → Prop} (K : StepKeeps w I)

include K

theorem StepKeeps.examine {s : State} (h : I s) : I s.examine :=
  examineHead_keeps I (fun _ _ _ o h _ hq _ hslot => K.reported o hq hslot h)
    (fun t e _ m h _ hq hd => K.calm (issue_calm t m e) (K.issued hq hd h)) (fun _ _ _ h _ _ _ => K.dispatcher _ h) _ s h

theorem StepKeeps.settle {s : State} (h : I s) : I s.settle :=
  K.examine (K.served (K.served h))

theorem StepKeeps.examineIf {s : State} (b : Bool) (h : I s) : I (s.examineIf b) := by
  cases b
  · exact h
  · exact K.examine h

theorem StepKeeps.captured {s : State} (r : FaultRecord) (h : I s) : I (s.captureFault r) := by
  have hraise (u : State) : Calm w u (u.raise .halt) := .of_eq rfl rfl rfl rfl rfl rfl rfl
  unfold State.captureFault
  split
  · exact h
  · exact K.calm (hraise _) (K.dispatcher _ h)

theorem StepKeeps.event : EventKeeps w I I I where
  calmBefore := K.calm
  calmWithin := K.calm
  calmAfter := K.calm
  opens := id
  closes := id
  finished := K.finished
  captured := K.captured
  settled := K.settle
  accepted he hu h := K.examineIf _ (K.calm hu (K.enqueued he h))
  held := K.held
  resumed _ h := K.examine (K.dispatcher _ h)
  popped hr h := ⟨fun _ => K.popped hr h, fun _ => K.popped hr h⟩

end Steps

/-! ### ABORT_TAG where it finds nothing -/

/-- A mover that is not hit keeps all its items (R149). -/
theorem stopMover_of_not_hit {s : State} {tag : Tag} {m : MoverIndex} (h : (s.mover m).hit tag = false) :
    s.stopMover tag m = s := by
  unfold State.stopMover
  dsimp only
  split
  · rfl
  · rename_i t ht
    split
    · rename_i htag
      split
      · rename_i hstate
        simp [Mover.hit, hstate, ht, htag] at h
      · rename_i hstate
        simp [Mover.hit, hstate, ht, htag] at h
      · rfl
      · rfl
    · rfl

theorem mark_of_not_carried {tag : Tag} {e : Entry} (h : e.tag ≠ tag) : Entry.mark tag e = e := if_neg h

/-- A queue in which no entry carries the tag stays as it is (R149). -/
theorem map_mark_of_none {s : State} {tag : Tag} (h : s.entriesMarked tag = 0) : s.queue.map (Entry.mark tag) = s.queue := by
  rw [State.entriesMarked, List.countP_eq_zero] at h
  exact (List.map_congr_left fun e he => mark_of_not_carried (by simpa using h e he)).trans (List.map_id _)

/-- Where nothing carries the tag ABORT_TAG marks and stops nothing (R149). -/
theorem abort_nothing {s : State} {tag : Tag} (hmarked : s.entriesMarked tag = 0) (hhit : s.transfersHit tag = 0) :
    ({ s with queue := s.queue.map (Entry.mark tag) }.stopMover tag 0).stopMover tag 1 = s := by
  rw [State.transfersHit, List.countP_eq_zero] at hhit
  have hmiss (m : MoverIndex) : (s.mover m).hit tag = false := by
    fin_cases m
    · simpa using hhit 0 (by simp)
    · simpa using hhit 1 (by simp)
  rw [map_mark_of_none hmarked, stopMover_of_not_hit (hmiss 0), stopMover_of_not_hit (hmiss 1)]

section Events

variable {w : Prop} {A Q P : State → Prop} (K : EventKeeps w A Q P) {s : State} {m : MoverIndex}

include K

/-- A calm event. -/
theorem EventKeeps.calm {t : State} (hc : Calm w s t) (h : A s) : P t :=
  K.closes (K.calmBefore hc h)

theorem EventKeeps.endTransfer (o : Outcome) (f : Option FaultItem) (hb : w → Busy (s.mover m)) (h : Q s) :
    P (s.endTransfer m o f) :=
  K.settled (K.finished o f hb h)

theorem EventKeeps.unitComplete (hb : w → Busy (s.mover m)) (h : A s) : P (s.unitComplete m) := by
  unfold State.unitComplete
  dsimp only
  split
  · exact K.closes h
  · rename_i t _
    have hcount : Calm w s (s.setMover m ((s.mover m).counted (s.unitElements t (s.mover m).position))) :=
      setMover_calm s m fun _ => .of_items rfl rfl rfl
    have hnext := hcount.trans (setMover_calm _ m (v := (State.mover _ m).advanced) fun _ => .of_items rfl rfl rfl)
    have ends (o : Outcome) := K.endTransfer o none (hcount.busy hb) (K.opens (K.calmBefore hcount h))
    split
    · exact ends .done
    · split
      · exact ends .aborted
      · split
        · exact K.calm (hnext.trans (startUnit_calm _ m)) h
        · split
          · exact ends .short
          · exact K.calm (hnext.trans (burstContinues_calm _ m _ (hnext.busy hb))) h

theorem EventKeeps.startWrite (hb : w → Busy (s.mover m)) (h : A s) : P (s.startWrite m) := by
  unfold State.startWrite
  dsimp only
  split
  · exact K.closes h
  · rename_i t _
    have hcompared : Calm w s (s.setMover m ((s.mover m).compared
        ((elementsOf (s.elementBytes t) (s.mover m).buffer).countP (s.skips t)))) :=
      setMover_calm s m fun _ => .of_items rfl rfl rfl
    split
    · exact K.unitComplete (hcompared.busy hb) (K.calmBefore hcompared h)
    · exact K.calm (hcompared.trans (launch_calm _ m _)) h

theorem EventKeeps.continueSide (hb : w → Busy (s.mover m)) (h : A s) : P (s.continueSide m) := by
  unfold State.continueSide
  dsimp only
  split
  · exact K.calm (launch_calm s m _) h
  · split
    · exact K.startWrite hb h
    · exact K.unitComplete hb h

theorem EventKeeps.moverFault (x : FaultItem) (hb : w → Busy (s.mover m)) (h : A s) : P (s.moverFault m x) := by
  unfold State.moverFault
  split
  · exact K.closes h
  · refine K.endTransfer .faulted (some x) (fun hw => ?_) (K.opens (K.captured _ h))
    unfold State.captureFault
    split <;> exact hb hw

theorem EventKeeps.endFromLine {n : LineIndex} (o : Outcome) (hb : ∀ m, (s.line n).bound = some m → w → Busy (s.mover m))
    (h : A s) : P (s.endFromLine n o) := by
  unfold State.endFromLine
  split
  · exact K.closes h
  · rename_i m hm
    exact K.calmAfter (eitherOrder_calm s _) (K.endTransfer o none (hb m hm) (K.opens h))

theorem EventKeeps.postStaged (h : A s) : P s.postStaged := by
  unfold State.postStaged
  dsimp only
  split
  · exact K.calm (s := s) (.of_eq rfl rfl rfl rfl rfl rfl rfl) h
  · rename_i e he
    exact K.accepted he (.of_eq rfl rfl rfl rfl rfl rfl rfl) h

theorem EventKeeps.present (record : Vector Word 8) (h : A s) : P (s.present record) := by
  unfold State.present
  split
  · rename_i hfull
    exact K.held record (verdict_full hfull) h
  · exact K.calm (endList_calm s _ _) h
  · rename_i e he
    dsimp only
    have hcount := setReader_calm (w := w) (s.enqueue e)
      (r := { (s.enqueue e).reader with count := (s.enqueue e).reader.count + 1 }) fun _ => ⟨rfl, rfl⟩
    split
    · exact K.accepted he (hcount.trans (endList_calm _ _ _)) h
    · exact K.calmAfter (requestBurst_calm _ _ _) (K.accepted he (hcount.trans (enterFetch_calm _ _)) h)

theorem EventKeeps.presentAgain (h : A s) : P s.presentAgain := by
  unfold State.presentAgain
  split
  · split
    · exact K.closes h
    · exact K.calmAfter (eitherOrder_calm s _) (K.present _ h)
  · exact K.closes h

theorem EventKeeps.completeBurst {g : Grant} (hb : g.live = true → ∀ m, g.owner = .mover m → w → Busy (s.mover m)) (h : A s) :
    P (s.completeBurst g) := by
  have hfree := releasePort_calm (w := w) s
  unfold State.completeBurst
  dsimp only
  split
  · rename_i hlive
    refine K.calmAfter (eitherOrder_calm _ _) ?_
    have hfreed := K.calmBefore hfree h
    unfold State.burstDone
    cases howner : g.owner with
    | mover m => exact K.continueSide (hfree.busy (hb hlive m howner)) hfreed
    | reader => exact K.present _ hfreed
  · exact K.calm hfree h

theorem EventKeeps.answerBeat (hr : w → Ready s) (data : Word) (h : A s) : P (s.answerBeat data) := by
  unfold State.answerBeat
  split
  · exact K.closes h
  · rename_i g hg
    split
    · exact K.closes h
    · rename_i b rest _
      have htaken : Calm w s (if g.live then s.takeData g.owner g.burst.write b data else s) := by
        split
        · exact takeData_calm s _ _ _ _
        · exact .refl s
      dsimp only
      split
      · exact K.completeBurst (fun hlive m howner => htaken.busy fun hw => (hr hw).owner g hg hlive m howner)
          (K.calmBefore htaken h)
      · exact K.calm (htaken.trans (.of_eq rfl rfl rfl rfl rfl rfl rfl)) h

theorem EventKeeps.failBeat (hr : w → Ready s) (h : A s) : P s.failBeat := by
  have hfree := releasePort_calm (w := w) s
  unfold State.failBeat
  split
  · exact K.closes h
  · rename_i g hg
    split
    · exact K.closes h
    · dsimp only
      split
      · rename_i hlive
        have hfreed := K.calmBefore hfree h
        unfold State.burstFailed
        cases howner : g.owner with
        | mover m => exact K.moverFault _ (hfree.busy fun hw => (hr hw).owner g hg hlive m howner) hfreed
        | reader => exact K.calm (endList_calm _ _ _) hfreed
      · exact K.calm hfree h

theorem EventKeeps.popCompletion (h : A s) : P s.popCompletion := by
  unfold State.popCompletion
  split
  · exact K.calm (s := s) (.of_eq rfl rfl rfl rfl rfl rfl rfl) h
  · rename_i r rest hrecords
    obtain ⟨hroom, hfull⟩ := K.popped hrecords h
    dsimp only
    split
    · rename_i hlt
      exact hroom hlt
    · rename_i hge
      exact K.calmAfter (eitherOrder_calm s _) (K.settled (hfull (Nat.le_of_not_lt hge)))

theorem EventKeeps.stopMover (tag : Tag) (m : MoverIndex) (h : Q s) : Q (s.stopMover tag m) := by
  unfold State.stopMover
  dsimp only
  split
  · exact h
  · rename_i t ht
    split
    · split
      · exact K.calmWithin (setMover_calm s m fun _ => .of_items rfl rfl rfl) h
      · rename_i hstate
        exact K.finished _ _ (fun _ => ⟨.inr hstate, by simp [ht]⟩) h
      · exact h
      · exact h
    · exact h

/-- ABORT_TAG, where the marks keep the property. -/
theorem EventKeeps.abortByTag {tag : Tag} (mark : Q { s with queue := s.queue.map (Entry.mark tag) })
    (nothing : s.entriesMarked tag = 0 → P s) : P (s.abortByTag tag) := by
  unfold State.abortByTag
  dsimp only
  refine K.calmAfter (result_calm _ _ _) ?_
  split
  · rename_i hnone
    rw [abort_nothing hnone.1 hnone.2]
    exact nothing hnone.1
  · exact K.calmAfter (eitherOrder_calm s _) (K.settled (K.stopMover tag 1 (K.stopMover tag 0 mark)))

theorem EventKeeps.resumeDispatch (h : A s) : P s.resumeDispatch := by
  unfold State.resumeDispatch
  split
  · rename_i hhalted
    exact K.calmAfter ((eitherOrder_calm s _).trans (result_calm _ _ _)) (K.resumed hhalted h)
  · exact K.calm (result_calm s _ _) h

theorem EventKeeps.requestRises (hr : w → Ready s) (n : LineIndex) (h : A s) : P (s.requestRises n) := by
  unfold State.requestRises
  dsimp only
  split
  · rename_i m hstate hbound
    exact K.calm ((setRequest_calm s n true).trans
      (admitBurst_calm _ m n fun hw => (hr hw).bound n m hbound (.inl hstate))) h
  · exact K.calm (setRequest_calm s n true) h

theorem EventKeeps.endEdge (hr : w → Ready s) (n : LineIndex) (h : A s) : P (s.endEdge n) := by
  unfold State.endEdge
  split
  · exact K.closes h
  · exact K.calm (setLine_calm s n rfl rfl) h
  · rename_i hstate
    exact K.endFromLine _ (fun m hbound hw => (hr hw).bound n m hbound (.inl hstate)) h
  · rename_i hstate
    exact K.endFromLine _ (fun m hbound hw => (hr hw).bound n m hbound (.inr hstate)) h

theorem EventKeeps.timerExpires (hr : w → Ready s) (n : LineIndex) (h : A s) : P (s.timerExpires n) := by
  unfold State.timerExpires
  split
  · rename_i hexpired
    have hstate : (s.line n).state = .wait ∨ (s.line n).state = .waitLow := by
      simp only [PacingLine.expired, Bool.and_eq_true, Bool.or_eq_true, beq_iff_eq] at hexpired
      exact hexpired.1.1
    exact K.endFromLine _ (fun m hbound hw => (hr hw).bound n m hbound hstate) h
  · exact K.closes h

/-- A well-formed command keeps what its events keep, where ABORT_TAG, FLUSH, the resets and a write of a plain register do. -/
theorem EventKeeps.exec {i : Instr} {t : State} (hw : i.wellFormed = true) (he : exec i s = .next t) (hr : w → Ready s)
    (h : A s) (plain : ∀ offset v, i = .registerWrite offset v → P (s.writePlain offset v))
    (abort : ∀ tag, i = .abortTag tag → P (s.abortByTag tag)) (flush : i = .flush → P s.flushQueue)
    (engineReset : i = .engineReset → P s.resetEngine) (fullReset : i = .fullReset → P s.resetFull) : P t := by
  have event {u : State} (hu : P u) : P (s.unlessReset u) := unlessReset_keeps (K.closes h) hu
  have calm {u : State} (hc : Calm w s u) : P (s.unlessReset u) := event (K.calm hc h)
  cases i <;> cases next_inj he
  case define k => exact calm (defineSurface_calm s k)
  case release k => exact calm (releaseSurface_calm s k)
  case resume => exact event (K.resumeDispatch h)
  case flush => exact event (flush rfl)
  case abortTag tag => exact event (abort tag rfl)
  case listStart => exact calm (startList_calm s)
  case listStop => exact calm (stopListCommand_calm s)
  case engineReset => exact event (engineReset rfl)
  case unknownCommand code operand =>
    rw [control_unknown hw]
    exact calm (result_calm s _ _)
  case post => exact event (K.postStaged h)
  case completionPop => exact event (K.popCompletion h)
  case intCauseWrite v => exact calm (.of_eq rfl rfl rfl rfl rfl rfl rfl)
  case intEnableWrite v => exact calm (.of_eq rfl rfl rfl rfl rfl rfl rfl)
  case freedSetWrite v => exact calm (.of_eq rfl rfl rfl rfl rfl rfl rfl)
  case statusWrite v => exact calm (writeStatus_calm s v)
  case timeBaseWrite v => exact calm (.of_eq rfl rfl rfl rfl rfl rfl rfl)
  case registerWrite offset v =>
    rw [writeWord_plain (by simpa [Instr.wellFormed] using hw)]
    exact event (plain offset v rfl)
  case nonWordAccess access offset enables =>
    rw [if_neg (by simpa [Instr.wellFormed] using hw)]
    exact calm (.of_eq rfl rfl rfl rfl rfl rfl rfl)
  case fullReset => exact fullReset rfl
  case resetRelease => exact K.calm (leaveReset_calm s) h
  case preqActive n =>
    split
    · exact K.calm (setRequest_calm s n true) h
    · exact K.requestRises hr n h
  case preqInactive n =>
    split
    · exact K.calm (setRequest_calm s n false) h
    · exact K.calm (requestFalls_calm s n) h
  case pendFall n => exact event (K.endEdge hr n h)
  case tick => exact calm (timeTick_calm s)
  case timerExpiry n => exact event (K.timerExpires hr n h)
  case beatAnswered d => exact event (K.answerBeat hr d h)
  case beatError => exact event (K.failBeat hr h)
  case waitSpacePresentation => exact event (K.presentAgain h)

end Events

end Sys2Proof.Machine
end

section
/-! The dispatcher is never behind (O20): its wait reason depends on the head, the movers and the room for records, and an
examination leaves the one that the tables give. -/

namespace Sys2Proof.Machine

open Sys2Proof.Safety

/-! ### What the wait reason depends on -/

theorem inFlight_congr {s t : State} (h : ∀ m, (t.mover m).transfer = (s.mover m).transfer) : t.inFlight = s.inFlight := by
  unfold State.inFlight
  simp only [h]

/-- The movers of both states hold the same transfers, and the same ones are IDLE. -/
structure SameLoad (s t : State) : Prop where
  transfer : ∀ m, (t.mover m).transfer = (s.mover m).transfer
  idle : ∀ m, (t.mover m).state = .idle ↔ (s.mover m).state = .idle

theorem Undisturbed.load {s t : State} (h : Undisturbed True s t) : SameLoad s t :=
  ⟨fun m => (h.mover trivial m).transfer, fun m => (h.mover trivial m).idle_iff⟩

theorem SameLoad.of_movers {s t : State} (h : t.movers = s.movers) : SameLoad s t :=
  ⟨fun m => by rw [mover_congr h], fun m => by rw [mover_congr h]⟩

theorem SameLoad.reportOf {s t : State} (h : SameLoad s t) (e : Entry) : reportOf t e = reportOf s e := by
  unfold Safety.reportOf MoversIdle
  simp only [h.idle]

theorem SameLoad.holdOf {s t : State} (h : SameLoad s t) (e : Entry) : holdOf t e = holdOf s e := by
  unfold Safety.holdOf
  simp only [h.reportOf, inFlight_congr h.transfer, h.idle, ne_eq]

theorem SameLoad.decision {s t : State} (h : SameLoad s t) (e : Entry) : t.decision e = s.decision e := by
  have hidle (m : MoverIndex) : ((t.mover m).state == .idle) = ((s.mover m).state == .idle) := by
    rw [Bool.eq_iff_iff, beq_iff_eq, beq_iff_eq, h.idle]
  unfold State.decision State.moversIdle State.idleMover
  simp only [inFlight_congr h.transfer, hidle, h.idle]

/-- The wait reason rests on the head alone of the queue, and of the records on whether one has room (R57, R68). -/
theorem expectedWait_congr {s t : State} (hd : t.dispatcher.halted = s.dispatcher.halted) (hq : t.queue.head? = s.queue.head?)
    (hm : SameLoad s t) (hc : t.completions.length < 32 ↔ s.completions.length < 32) : expectedWait t = expectedWait s := by
  unfold expectedWait
  rw [hd]
  cases hs : s.queue with
  | nil =>
    rw [List.head?_eq_none_iff.mp (by rw [hq, hs, List.head?_nil] : t.queue.head? = none)]
  | cons e q =>
    obtain ⟨q', ht⟩ : ∃ q', t.queue = e :: q' := List.head?_eq_some_iff.mp (by rw [hq, hs, List.head?_cons])
    rw [ht]
    simp only [hm.reportOf, hm.holdOf, hc]

theorem dispatcherSound_congr {s t : State} (hd : t.dispatcher = s.dispatcher) (hq : t.queue.head? = s.queue.head?)
    (hm : SameLoad s t) (hc : t.completions.length < 32 ↔ s.completions.length < 32) (h : DispatcherSound s) :
    DispatcherSound t := by
  unfold DispatcherSound
  rw [expectedWait_congr (by rw [hd]) hq hm hc, hd]
  exact h

theorem Undisturbed.dispatcherSound {s t : State} (hc : Undisturbed True s t) (h : DispatcherSound s) : DispatcherSound t :=
  dispatcherSound_congr hc.dispatcher (by rw [hc.queue]) hc.load (by rw [hc.completions]) h

/-! ### The decision by the tables -/

/-- A head is held for one of the reasons of Table 3-2, none of which is SPACE. -/
theorem holdOf_ne_space (s : State) (e : Entry) : holdOf s e ≠ some .space := by
  unfold holdOf
  split_ifs <;> simp

theorem decision_report_iff (s : State) (e : Entry) (o : Outcome) : s.decision e = .report o ↔ reportOf s e = some o := by
  refine ⟨fun h => ?_, decision_of_report⟩
  have hcase := decision_case s e
  rw [h] at hcase
  cases hcase with
  | report hr => exact hr

theorem decision_hold_iff (s : State) (e : Entry) (r : WaitReason) : s.decision e = .hold r ↔ holdOf s e = some r := by
  refine ⟨fun h => ?_, decision_of_hold⟩
  have hcase := decision_case s e
  rw [h] at hcase
  cases hcase with
  | hold _ hh => exact hh

/-! ### An examination -/

/-- What the dispatcher's items are whatever it waits for: the fault record is there exactly in HALT, where nothing is waited
for (R68, R153, R154). -/
def HaltSound (d : Dispatcher) : Prop :=
  (d.halted = true ↔ d.fault.isSome) ∧ (d.halted = true → d.waitReason = .none ∧ d.slotRequest = false)

theorem dispatcherSound_halted {s : State} (h : HaltSound s.dispatcher) (hd : s.dispatcher.halted = true) :
    DispatcherSound s := by
  obtain ⟨hfault, hwait⟩ := h
  obtain ⟨hreason, hslot⟩ := hwait hd
  refine ⟨?_, ?_, hfault⟩
  · simp [expectedWait, hd, hreason]
  · simp [hreason, hslot]

theorem haltSound_of_sound {s : State} (h : DispatcherSound s) : HaltSound s.dispatcher := by
  obtain ⟨hwait, hslot, hfault⟩ := h
  refine ⟨hfault, fun hd => ?_⟩
  have hreason : s.dispatcher.waitReason = .none := by
    rw [expectedWait, if_pos hd] at hwait
    exact (Option.some.inj hwait).symm
  refine ⟨hreason, ?_⟩
  simpa [hreason] using hslot

/-- A wait that the head's decision gives. -/
theorem setWait_sound {s : State} {r : WaitReason} {b : Bool} (hd : s.dispatcher.halted = false)
    (hf : s.dispatcher.fault = none) (hr : expectedWait s = some r) (hb : b = true ↔ r = .space) :
    DispatcherSound (s.setWait r b) := by
  refine ⟨?_, hb, by simp [State.setWait, hd, hf]⟩
  exact (expectedWait_congr rfl rfl (.of_movers rfl) Iff.rfl).trans hr

/-- In RUN an examination with a turn for every entry ends with the wait reason of the tables (R57, R68). -/
theorem examineHead_sound : ∀ (fuel : Nat) (s : State), s.queue.length < fuel → s.dispatcher.halted = false →
    s.dispatcher.fault = none → DispatcherSound (State.examineHead fuel s)
  | 0, _, hfuel, _, _ => absurd hfuel (Nat.not_lt_zero _)
  | fuel + 1, s, hfuel, hd, hf => by
    unfold State.examineHead
    rw [if_neg (by simp [hd])]
    cases hq : s.queue with
    | nil => exact setWait_sound hd hf (by simp [expectedWait, hd, hq]) (by simp)
    | cons e q =>
      have hshorter : s.queue.tail.length < fuel := by
        rw [hq] at hfuel ⊢
        simpa using hfuel
      dsimp only
      cases hdecision : s.decision e with
      | report o =>
        have hreport := (decision_report_iff s e o).mp hdecision
        dsimp only
        split
        · obtain ⟨hqueue, -, -, -, -, hdispatcher⟩ := report_frame s e o
          exact examineHead_sound fuel _ (hqueue ▸ hshorter) (hdispatcher ▸ hd) (hdispatcher ▸ hf)
        · rename_i hslot
          have hfull : ¬ s.completions.length < 32 := fun hroom => hslot (decide_eq_true hroom)
          exact setWait_sound hd hf (by simp [expectedWait, hd, hq, hreport, hfull]) (by simp)
      | hold r =>
        have hhold := (decision_hold_iff s e r).mp hdecision
        have hnone : reportOf s e = none := by
          cases hr : reportOf s e with
          | none => rfl
          | some o => simp [holdOf, hr] at hhold
        have hspace : r ≠ .space := fun h => holdOf_ne_space s e (h ▸ hhold)
        exact setWait_sound hd hf (by simp [expectedWait, hd, hq, hnone, hhold]) (by simp [hspace])
      | issue m =>
        obtain ⟨hqueue, hdispatcher⟩ := issue_frame s m e
        exact examineHead_sound fuel _ (hqueue ▸ hshorter) (hdispatcher ▸ hd) (hdispatcher ▸ hf)

theorem examine_sound {s : State} (h : HaltSound s.dispatcher) : DispatcherSound s.examine := by
  cases hd : s.dispatcher.halted with
  | true =>
    rw [examine_halted hd]
    exact dispatcherSound_halted h hd
  | false =>
    have hfault : s.dispatcher.fault = none := by simpa [hd] using h.1
    exact examineHead_sound _ s (Nat.lt_succ_self _) hd hfault

theorem serveMover_dispatcher (s : State) (m : MoverIndex) : (s.serveMover m).dispatcher = s.dispatcher := by
  rcases serveMover_cases s m with ⟨h, -⟩ | ⟨-, _, _, _, _, _, -, -, h⟩ <;> rw [h]
  rfl

theorem settle_sound {s : State} (h : HaltSound s.dispatcher) : DispatcherSound s.settle := by
  refine examine_sound ?_
  rwa [serveMover_dispatcher, serveMover_dispatcher]

/-! ### Through every event -/

theorem finish_dispatcher (s : State) (m : MoverIndex) (o : Outcome) (f : Option FaultItem) :
    (s.finish m o f).dispatcher = s.dispatcher := by
  obtain ⟨_, _, _, _, h⟩ := finish_portOnly s m o f
  rw [h]

/-- An entry behind others leaves the head as it is. -/
theorem enqueue_sound {s : State} (e : Entry) (h : DispatcherSound s) (hq : s.queue ≠ []) : DispatcherSound (s.enqueue e) := by
  obtain ⟨_, henqueue⟩ := enqueue_only s e
  rw [henqueue]
  exact dispatcherSound_congr (s := s) rfl (List.head?_append_of_ne_nil _ hq) (.of_movers rfl) Iff.rfl h

/-- An event that ends a transfer or brings a new head examines the head; every other one leaves all that it depends on. -/
theorem dispatcherSound_event :
    EventKeeps True DispatcherSound (fun s => HaltSound s.dispatcher) DispatcherSound where
  calmBefore hc := hc.dispatcherSound
  calmWithin hc h := hc.dispatcher ▸ h
  calmAfter hc := hc.dispatcherSound
  opens := haltSound_of_sound
  closes := id
  finished o f _ h := by rwa [finish_dispatcher]
  captured r h := by
    unfold State.captureFault
    split
    · exact h
    · exact dispatcherSound_halted ⟨by simp, by simp⟩ rfl
  settled := settle_sound
  accepted {s _ e u} _ hu h := by
    cases hq : s.queue with
    | nil =>
      refine examine_sound ?_
      rw [hu.dispatcher]
      obtain ⟨_, henqueue⟩ := enqueue_only s e
      rw [henqueue]
      exact haltSound_of_sound (s := s) h
    | cons e' q => exact hu.dispatcherSound (enqueue_sound e h (by simp [hq]))
  held {s} _ _ h := dispatcherSound_congr (s := s) rfl rfl (.of_movers rfl) Iff.rfl h
  resumed _ _ := examine_sound ⟨by simp [State.running], nofun⟩
  popped {s r rest} hr h := by
    refine ⟨fun hroom => ?_, fun _ => haltSound_of_sound (s := s) h⟩
    have hrest : rest.length < 32 := by
      rw [hr, List.length_cons] at hroom
      omega
    exact dispatcherSound_congr (s := s) rfl rfl (.of_movers rfl) (iff_of_true hrest hroom) h

theorem flushQueue_sound {s : State} (h : DispatcherSound s) : DispatcherSound s.flushQueue := by
  obtain ⟨hfault, -⟩ := haltSound_of_sound h
  obtain ⟨_, _, _, hflushed⟩ := flushed_only s
  refine (flushQueue_calm s).dispatcherSound ?_
  rw [hflushed]
  exact ⟨ite_self _, iff_of_false nofun nofun, hfault⟩

theorem dispatcherSound_reset {s : State} (hd : s.dispatcher = Dispatcher.reset) (hq : s.queue = []) : DispatcherSound s := by
  refine ⟨?_, ?_, ?_⟩ <;> simp [expectedWait, hd, hq, Dispatcher.reset]

/-- Settles O20: an event that changes what the wait reason depends on ends with an examination of the head, and the dispatcher
decides by the tables. -/
theorem dispatcherNeverBehind : Obligations.DispatcherNeverBehind := by
  refine ⟨fun i s t hsound h he => ?_, fun s e => ⟨decision_report_iff s e, decision_hold_iff s e⟩⟩
  obtain ⟨j, hw, hj⟩ := exec_as_wellFormed i s
  rw [hj] at he
  exact dispatcherSound_event.exec hw he (fun _ => ready_of_sound hsound) h
    (fun offset v _ => (writePlain_undisturbed s offset v).dispatcherSound h)
    (fun tag _ => dispatcherSound_event.abortByTag (haltSound_of_sound (s := s) h) fun _ => h)
    (fun _ => flushQueue_sound h) (fun _ => dispatcherSound_reset rfl rfl) (fun _ => dispatcherSound_reset rfl rfl)

end Sys2Proof.Machine
end

section
/-! The order of the command queue (O22), and transfers in flight (O21). -/

namespace Sys2Proof.Machine

open Sys2Proof.Safety

/-! ### The queue through an event -/

theorem captureFault_queue (s : State) (r : FaultRecord) : (s.captureFault r).queue = s.queue := by
  unfold State.captureFault
  split <;> rfl

theorem finish_queue (s : State) (m : MoverIndex) (o : Outcome) (f : Option FaultItem) : (s.finish m o f).queue = s.queue :=
  (finish_work s m o f).queue

/-- A posting of a mover leaves the queue (R94). -/
theorem serveMover_queue (s : State) (m : MoverIndex) : (s.serveMover m).queue = s.queue := by
  rcases serveMover_cases s m with ⟨h, -⟩ | ⟨-, _, _, _, _, _, -, -, h⟩ <;> rw [h]
  rfl

/-- Entries have left the queue from its head alone, and none where the dispatcher is in HALT (R53, R69). -/
def Dequeues (s t : State) : Prop :=
  ∃ k, t.queue = s.queue.drop k ∧ (t.dispatcher.halted = true → k = 0)

theorem examine_dequeues (s : State) : Dequeues s s.examine := by
  cases hd : s.dispatcher.halted with
  | true =>
    rw [examine_halted hd]
    exact ⟨0, rfl, fun _ => rfl⟩
  | false =>
    have step {u v : State} (hv : v.queue = u.queue.tail ∧ v.dispatcher = u.dispatcher)
        (hu : (∃ k, u.queue = s.queue.drop k) ∧ u.dispatcher.halted = false) :
        (∃ k, v.queue = s.queue.drop k) ∧ v.dispatcher.halted = false := by
      obtain ⟨⟨k, hk⟩, hhalted⟩ := hu
      exact ⟨⟨k + 1, by rw [hv.1, hk, List.tail_drop]⟩, hv.2 ▸ hhalted⟩
    obtain ⟨⟨k, hk⟩, hhalted⟩ := examineHead_keeps (fun u => (∃ k, u.queue = s.queue.drop k) ∧ u.dispatcher.halted = false)
      (fun u e _ o hu _ _ _ _ => step ⟨(report_frame u e o).1, (report_frame u e o).2.2.2.2.2⟩ hu)
      (fun u e _ m hu _ _ _ => step (issue_frame u m e) hu)
      (fun _ _ _ hu _ _ _ => hu) (s.queue.length + 1) s ⟨⟨0, rfl⟩, hd⟩
    exact ⟨k, hk, fun h => absurd h (by simp [State.examine, hhalted])⟩

theorem settle_dequeues (s : State) : Dequeues s s.settle := by
  have h := examine_dequeues ((s.serveMover 0).serveMover 1)
  unfold Dequeues at h
  rwa [serveMover_queue, serveMover_queue] at h

theorem examineIf_dequeues (s : State) (b : Bool) : Dequeues s (s.examineIf b) := by
  cases b
  · exact ⟨0, rfl, fun _ => rfl⟩
  · exact examine_dequeues s

/-- After the event: the queue `q` without entries of its head end, and at most one new unmarked entry behind them; none has left
where the dispatcher is in HALT (R47, R53, R69). -/
def Follows (q : List Entry) (t : State) : Prop :=
  ∃ (k : Nat) (new : List Entry), t.queue = q.drop k ++ new ∧ new.length ≤ 1 ∧ (∀ e ∈ new, e.cancelled = false)
    ∧ (t.dispatcher.halted = true → k = 0)

theorem Dequeues.follows {s t : State} {q : List Entry} (h : Dequeues s t) (hq : s.queue = q) : Follows q t := by
  obtain ⟨k, hk, hhalted⟩ := h
  exact ⟨k, [], by rw [hk, hq, List.append_nil], by simp, by simp, hhalted⟩

/-- An accepted entry carries no mark (Table 2-6). -/
theorem accepted_unmarked {s : State} {c : Command} {e : Entry} (h : s.verdict c = .accepted e) : e.cancelled = false := by
  cases (verdict_accepted h).2 <;> rfl

/-- Through every event entries enter the queue at its tail and leave it from its head. -/
theorem follows_event (q : List Entry) :
    EventKeeps False (fun s => s.queue = q) (fun s => s.queue = q) (Follows q) where
  calmBefore hc h := hc.queue.trans h
  calmWithin hc h := hc.queue.trans h
  calmAfter hc h := by
    unfold Follows
    rw [hc.queue, hc.dispatcher]
    exact h
  opens := id
  closes h := ⟨0, [], by rw [h]; simp, by simp, by simp, fun _ => rfl⟩
  finished o f _ h := (finish_queue _ _ o f).trans h
  captured r h := (captureFault_queue _ r).trans h
  settled h := (settle_dequeues _).follows h
  accepted {s _ e u} he hu h := by
    obtain ⟨k, hk, hhalted⟩ := examineIf_dequeues u s.queue.isEmpty
    have hqueue : u.queue = q ++ [e] := hu.queue.trans (congrArg (· ++ [e]) h)
    refine ⟨k, [e].drop (k - q.length), by rw [hk, hqueue, List.drop_append], by simp, fun x hx => ?_, hhalted⟩
    obtain rfl : x = e := by simpa using List.mem_of_mem_drop hx
    exact accepted_unmarked he
  held _ _ h := ⟨0, [], by simpa using h, by simp, by simp, fun _ => rfl⟩
  resumed _ h := (examine_dequeues _).follows h
  popped _ h := ⟨fun _ => ⟨0, [], by simpa using h, by simp, by simp, fun _ => rfl⟩, fun _ => h⟩

theorem sameOrMarked_mark (tag : Tag) (e : Entry) : SameOrMarked e (Entry.mark tag e) := by
  unfold Entry.mark
  split
  · exact .inr rfl
  · exact .inl rfl

/-- Settles O22: ABORT_TAG follows the marked queue, and every other command the queue as it was. -/
theorem queueKeepsOrder : Obligations.QueueKeepsOrder := by
  intro i s t hw hflush hengine hfull he
  by_cases habort : ∃ tag, i = .abortTag tag
  · obtain ⟨tag, rfl⟩ := habort
    have hmarked : Follows (s.queue.map (Entry.mark tag)) t ∨ t = s := by
      rw [next_inj he]
      refine unlessReset_keeps (P := fun u => Follows (s.queue.map (Entry.mark tag)) u ∨ u = s) (.inr rfl) (.inl ?_)
      exact (follows_event _).abortByTag rfl fun hnone => ⟨0, [], by simp [map_mark_of_none hnone], by simp, by simp,
        fun _ => rfl⟩
    rcases hmarked with ⟨k, new, hqueue, hlength, hnew, hhalted⟩ | rfl
    · refine ⟨k, (s.queue.map (Entry.mark tag)).drop k, new, hqueue, ?_, hlength, hnew, fun h => absurd rfl (h tag),
        fun h => by simp [hhalted h]⟩
      rw [← List.map_drop, List.forall₂_map_right_iff]
      exact List.forall₂_same.mpr fun e _ => sameOrMarked_mark tag e
    · exact ⟨0, t.queue, [], by simp, List.forall₂_same.mpr fun e _ => .inl rfl, by simp, by simp, fun _ => rfl,
        fun _ => rfl⟩
  · obtain ⟨k, new, hqueue, hlength, hnew, hhalted⟩ : Follows s.queue t :=
      (follows_event s.queue).exec hw he False.elim rfl
        (fun offset v _ => ⟨0, [], by simp [(writePlain_undisturbed (w := False) s offset v).queue], by simp, by simp,
          fun _ => rfl⟩)
        (fun tag hi => absurd ⟨tag, hi⟩ habort) (fun hi => absurd hi hflush) (fun hi => absurd hi hengine)
        (fun hi => absurd hi hfull)
    exact ⟨k, s.queue.drop k, new, hqueue, List.forall₂_same.mpr fun e _ => .inl rfl, hlength, hnew, fun _ => rfl,
      fun h => by simp [hhalted h]⟩

/-! ### Transfers in flight -/

/-- The hazard check and the line check look at the two commands alike (R64, R65). -/
theorem footprintsMeet_comm (a b : Option Range) : footprintsMeet a b = footprintsMeet b a := by
  cases a <;> cases b <;> simp [footprintsMeet, Range.intersects, Bool.and_comm]

theorem conflicts_comm (a b : Entry) : a.conflicts b = b.conflicts a := by
  unfold Entry.conflicts
  rw [footprintsMeet_comm a.reads, footprintsMeet_comm a.writes, footprintsMeet_comm a.writes, Bool.or_comm (footprintsMeet _ _)]

theorem sharesLine_comm (a b : Entry) : a.sharesLine b = b.sharesLine a := by
  unfold Entry.sharesLine
  by_cases h : a.line = b.line
  · rw [h]
  · rw [beq_false_of_ne h, beq_false_of_ne (Ne.symm h), Bool.and_false, Bool.and_false]

/-- Neither of two commands excludes the other from being in flight (R64, R65). -/
def Apart (a b : Entry) : Prop :=
  a.conflicts b = false ∧ a.sharesLine b = false

theorem Apart.symm {a b : Entry} (h : Apart a b) : Apart b a := by
  obtain ⟨hconflict, hline⟩ := h
  exact ⟨conflicts_comm b a ▸ hconflict, sharesLine_comm b a ▸ hline⟩

/-- An issue finds its entry apart from every transfer in flight (R63). -/
theorem issue_apart {s : State} {e : Entry} {m : MoverIndex} (h : s.decision e = .issue m) {t : Entry} (ht : t ∈ s.inFlight) :
    Apart e t := by
  unfold State.decision at h
  split at h
  · cases h
  · split at h
    · split at h <;> cases h
    · split at h
      · cases h
      · split at h
        · cases h
        · rename_i hconflict
          split at h
          · cases h
          · rename_i hline
            exact ⟨by simpa using List.any_eq_false.mp (Bool.not_eq_true _ ▸ hconflict) t ht,
              by simpa using List.any_eq_false.mp (Bool.not_eq_true _ ▸ hline) t ht⟩

/-- Both movers' transfers, whichever is named first. -/
theorem inFlightApart_iff (s : State) :
    InFlightApart s ↔ ∀ j k, j ≠ k → ∀ a ∈ (s.mover j).transfer, ∀ b ∈ (s.mover k).transfer, Apart a b := by
  refine ⟨fun h j k hjk a ha b hb => ?_, fun h a ha b hb => h 0 1 (by decide) a ha b hb⟩
  fin_cases j <;> fin_cases k
  · exact absurd rfl hjk
  · exact h a ha b hb
  · exact Apart.symm (h b hb a ha)
  · exact absurd rfl hjk

theorem apart_of_transfers {s t : State} (ht : ∀ m, (t.mover m).transfer = (s.mover m).transfer) (h : InFlightApart s) :
    InFlightApart t := by
  unfold InFlightApart
  rw [ht, ht]
  exact h

/-- A mover takes a transfer that is apart from the other's, or none. -/
theorem apart_setMover {s : State} {m : MoverIndex} {v : Mover} (h : InFlightApart s)
    (hv : ∀ a ∈ v.transfer, ∀ k, k ≠ m → ∀ b ∈ (s.mover k).transfer, Apart a b) : InFlightApart (s.setMover m v) := by
  rw [inFlightApart_iff] at h ⊢
  intro j k hjk a ha b hb
  by_cases hj : j = m
  · subst hj
    rw [setMover_mover] at ha
    rw [setMover_mover_ne s (Ne.symm hjk)] at hb
    exact hv a ha k (Ne.symm hjk) b hb
  · rw [setMover_mover_ne s hj] at ha
    by_cases hk : k = m
    · subst hk
      rw [setMover_mover] at hb
      exact (hv b hb j hj a ha).symm
    · rw [setMover_mover_ne s hk] at hb
      exact h j k hjk a ha b hb

/-- An event ends transfers, or issues one that the dispatcher has checked against the other (R63, R67). -/
theorem apart_steps : StepKeeps True InFlightApart where
  calm hc := apart_of_transfers fun m => (hc.mover trivial m).transfer
  finished {s m} o f _ := apart_of_transfers (finish_books s m o f).transfer
  dispatcher _ h := h
  served {s m} h := by
    rcases serveMover_cases s m with ⟨heq, -⟩ | ⟨-, _, _, _, _, _, -, -, heq⟩ <;> rw [heq]
    · exact h
    · exact apart_setMover h nofun
  reported {s e _} o _ _ := apart_of_transfers fun m => by rw [mover_congr (report_frame s e o).2.2.2.1]
  issued {s e _ m} _ hd h := by
    obtain ⟨_, hr⟩ := removeHead_only s
    rw [hr]
    refine apart_setMover h fun a ha k _ b hb => ?_
    obtain rfl : e = a := by simpa [Mover.take] using ha
    exact issue_apart hd (mem_inFlight hb)
  enqueued {s _ e} _ h := by
    obtain ⟨_, henqueue⟩ := enqueue_only s e
    rw [henqueue]
    exact h
  held _ _ h := h
  popped _ h := h

theorem apart_of_idle {s : State} (h : ∀ m, s.mover m = Mover.idle) : InFlightApart s := by
  intro a ha
  rw [h] at ha
  cases ha

/-- Settles O21. -/
theorem transfersStayApart : Obligations.TransfersStayApart := by
  intro i s t hsound h he
  obtain ⟨j, hw, hj⟩ := exec_as_wellFormed i s
  rw [hj] at he
  refine apart_steps.event.exec hw he (fun _ => ready_of_sound hsound) h
    (fun offset v _ => apart_of_transfers (writePlain_books s offset v).transfer h)
    (fun tag _ => apart_steps.event.abortByTag h fun _ => h) (fun _ => ?_)
    (fun _ => apart_of_idle fun m => ?_) (fun _ => apart_of_idle fun m => ?_)
  · obtain ⟨_, _, _, hflushed⟩ := flushed_only s
    refine apart_steps.calm (flushQueue_calm s) ?_
    rw [hflushed]
    exact h
  all_goals fin_cases m <;> rfl

end Sys2Proof.Machine
end

section
/-! Registers that only the host writes (O59): the engine's events leave them, and a control command or POST leaves its result. -/

namespace Sys2Proof.Machine

open Sys2Proof.Safety

/-! ### The configuration of the lines through every command -/

theorem finish_settings (s : State) (m : MoverIndex) (o : Outcome) (f : Option FaultItem) : SettingsKept s (s.finish m o f) := by
  unfold State.finish
  dsimp only
  split
  · exact .of_lines rfl
  · exact setLine_settings _ _ rfl rfl

/-- No event of the engine configures a line (R100). -/
theorem settings_steps (s₀ : State) : StepKeeps False (SettingsKept s₀) where
  calm hc h := h.trans hc.settings
  finished {s m} o f _ h := h.trans (finish_settings s m o f)
  dispatcher _ h := h
  served {s m} h := by
    rcases serveMover_cases s m with ⟨heq, -⟩ | ⟨-, _, _, _, _, _, -, -, heq⟩ <;> rw [heq] <;> exact h
  reported {s e _} o _ _ h := by
    obtain ⟨_, _, _, hr⟩ := report_only s e o
    rw [hr]
    exact h
  issued {s _ _ _} _ _ h := (h.trans (removeHead_settings s)).trans (.of_lines rfl)
  enqueued {s _ e} _ h := by
    obtain ⟨_, henqueue⟩ := enqueue_only s e
    rw [henqueue]
    exact h
  held _ _ h := h
  popped _ h := h

theorem resetEngine_settings (s : State) : SettingsKept s s.resetEngine := by
  intro n
  have hline : s.resetEngine.line n = (s.line n).released := by simp [State.resetEngine, State.result, State.line]
  rw [hline]
  exact ⟨rfl, rfl⟩

theorem flushQueue_settings (s : State) : SettingsKept s s.flushQueue := by
  obtain ⟨_, _, _, hflushed⟩ := flushed_only s
  have h := (flushQueue_calm (w := False) s).settings
  rw [hflushed] at h
  exact h

/-- Every command but a write of a plain register and a full reset leaves the configuration of the lines (R100). -/
theorem exec_settings {i : Instr} {s t : State} (hw : i.wellFormed = true) (he : exec i s = .next t)
    (hwrite : ∀ offset v, i ≠ .registerWrite offset v) (hfull : i ≠ .fullReset) : SettingsKept s t :=
  (settings_steps s).event.exec hw he False.elim (.refl s) (fun offset v hi => absurd hi (hwrite offset v))
    (fun _ _ => (settings_steps s).event.abortByTag (SettingsKept.refl s) fun _ => .refl s)
    (fun _ => flushQueue_settings s) (fun _ => resetEngine_settings s) (fun hi => absurd hi hfull)

/-! ### The engine's own work, command by command -/

theorem EngineOnly.unlessReset {s t : State} (h : EngineOnly s t) : EngineOnly s (s.unlessReset t) :=
  unlessReset_keeps (P := EngineOnly s) (.refl s) h

theorem setLine_engineOnly (s : State) (n : LineIndex) (v : PacingLine) : EngineOnly s (s.setLine n v) :=
  (setLine_portOnly s n v).engine

theorem requestRises_engineOnly (s : State) (n : LineIndex) : EngineOnly s (s.requestRises n) := by
  unfold State.requestRises
  dsimp only
  split
  · exact (setLine_engineOnly s n _).trans (admit_portOnly _ _ n).engine
  · exact setLine_engineOnly s n _

theorem requestFalls_engineOnly (s : State) (n : LineIndex) : EngineOnly s (s.requestFalls n) := by
  unfold State.requestFalls
  dsimp only
  split
  · exact (setLine_engineOnly s n _).trans (setLine_engineOnly _ n _)
  · exact setLine_engineOnly s n _

theorem endEdge_engineOnly (s : State) (n : LineIndex) : EngineOnly s (s.endEdge n) := by
  unfold State.endEdge
  split
  · exact .refl s
  · exact setLine_engineOnly s n _
  all_goals exact endFromLine_engineOnly s n _

theorem timerExpires_engineOnly (s : State) (n : LineIndex) : EngineOnly s (s.timerExpires n) := by
  unfold State.timerExpires
  split
  · exact endFromLine_engineOnly s n _
  · exact .refl s

/-- The events of the device but a tick are the engine's own work. -/
theorem exec_event_engineOnly {i : Instr} {s t : State} (he : exec i s = .next t)
    (hi : i = .beatError ∨ i = .waitSpacePresentation ∨ (∃ data, i = .beatAnswered data)
      ∨ ∃ n, i = .preqActive n ∨ i = .preqInactive n ∨ i = .pendFall n ∨ i = .timerExpiry n) : EngineOnly s t := by
  rcases hi with rfl | rfl | ⟨d, rfl⟩ | ⟨n, rfl | rfl | rfl | rfl⟩ <;> cases next_inj he
  · exact (failBeat_engineOnly s).unlessReset
  · exact (presentAgain_engineOnly s).unlessReset
  · exact (answerBeat_engineOnly s d).unlessReset
  · split
    · exact setLine_engineOnly s n _
    · exact requestRises_engineOnly s n
  · split
    · exact setLine_engineOnly s n _
    · exact requestFalls_engineOnly s n
  · exact (endEdge_engineOnly s n).unlessReset
  · exact (timerExpires_engineOnly s n).unlessReset

/-- A tick restarts the divider beside the lines' timers (R99). -/
theorem exec_tick_only {s t : State} (he : exec .tick s = .next t) : EngineOnly { s with divider := t.divider } t := by
  cases next_inj he
  refine unlessReset_keeps (P := fun u => EngineOnly { s with divider := u.divider } u) (.refl s) ?_
  unfold State.timeTick
  split
  · exact .refl s
  · exact ⟨_, _, _, _, _, _, _, _, _, _, _, _, _, rfl⟩

/-- `t` differs from `s` at most in the engine's own work and CONTROL_RESULT (R167). -/
def ControlOnly (s t : State) : Prop :=
  EngineOnly { s with controlResult := t.controlResult } t

theorem ControlOnly.of_engine {s t : State} (h : EngineOnly s t) : ControlOnly s t := by
  obtain ⟨_, _, _, _, _, _, _, _, _, _, _, _, _, rfl⟩ := h
  exact ⟨_, _, _, _, _, _, _, _, _, _, _, _, _, rfl⟩

theorem EngineOnly.result {s t : State} (h : EngineOnly s t) (c : ResultCode) (v : Nat) : ControlOnly s (t.result c v) := by
  obtain ⟨_, _, _, _, _, _, _, _, _, _, _, _, _, rfl⟩ := h
  exact ⟨_, _, _, _, _, _, _, _, _, _, _, _, _, rfl⟩

theorem setSurface_engineOnly (s : State) (k : SurfaceIndex) (f : Surface) : EngineOnly s (s.setSurface k f) :=
  ⟨_, _, _, _, _, _, _, _, _, _, _, _, _, rfl⟩

theorem free_engineOnly (s : State) (k : SurfaceIndex) : EngineOnly s (s.free k) :=
  ⟨_, _, _, _, _, _, _, _, _, _, _, _, _, rfl⟩

theorem raiseIf_engineOnly (s : State) (b : Bool) (c : Cause) : EngineOnly s (s.raiseIf b c) := by
  obtain ⟨_, h⟩ := raiseIf_causes_only s b c
  rw [h]
  exact ⟨_, _, _, _, _, _, _, _, _, _, _, _, _, rfl⟩

theorem defineSurface_controlOnly (s : State) (k : BitVec 8) : ControlOnly s (s.defineSurface k) := by
  unfold State.defineSurface
  dsimp only
  split
  · exact (EngineOnly.refl s).result _ _
  · split
    · exact (EngineOnly.refl s).result _ _
    · exact (setSurface_engineOnly s _ _).result _ _

theorem releaseSurface_controlOnly (s : State) (k : BitVec 8) : ControlOnly s (s.releaseSurface k) := by
  unfold State.releaseSurface
  dsimp only
  split
  · exact (EngineOnly.refl s).result _ _
  · split
    · exact (EngineOnly.refl s).result _ _
    · split
      · exact (free_engineOnly s _).result _ _
      · exact (setSurface_engineOnly s _ _).result _ _
    · exact (EngineOnly.refl s).result _ _

theorem resumeDispatch_controlOnly (s : State) : ControlOnly s s.resumeDispatch := by
  unfold State.resumeDispatch
  split
  · have hrunning : EngineOnly s s.running := ⟨_, _, _, _, _, _, _, _, _, _, _, _, _, rfl⟩
    exact ((hrunning.trans (examine_engineOnly _)).trans (eitherOrder_engineOnly s _)).result _ _
  · exact (EngineOnly.refl s).result _ _

theorem flushQueue_controlOnly (s : State) : ControlOnly s s.flushQueue := by
  obtain ⟨_, _, _, hflushed⟩ := flushed_only s
  have h : EngineOnly s (flushed s) := by
    rw [hflushed]
    exact ⟨_, _, _, _, _, _, _, _, _, _, _, _, _, rfl⟩
  exact ((h.trans (stopList_engineOnly _)).trans (raiseIf_engineOnly _ _ _)).result _ _

theorem abortByTag_controlOnly (s : State) (tag : Tag) : ControlOnly s (s.abortByTag tag) := by
  have hmark : EngineOnly s { s with queue := s.queue.map (Entry.mark tag) } := ⟨_, _, _, _, _, _, _, _, _, _, _, _, _, rfl⟩
  have hstop := (hmark.trans (stopMover_portOnly _ 0 tag).engine).trans (stopMover_portOnly _ 1 tag).engine
  unfold State.abortByTag
  dsimp only
  refine EngineOnly.result ?_ _ _
  split
  · exact hstop
  · exact (hstop.trans (settle_engineOnly _)).trans (eitherOrder_engineOnly s _)

theorem startList_controlOnly (s : State) : ControlOnly s s.startList := by
  unfold State.startList
  split
  · exact (EngineOnly.refl s).result _ _
  · split
    · exact (EngineOnly.refl s).result _ _
    · dsimp only
      exact (((setReader_engineOnly s _).trans (enterFetch_engineOnly _ _)).trans (requestFetch_engineOnly _)).result _ _

theorem stopListCommand_controlOnly (s : State) : ControlOnly s s.stopListCommand := by
  unfold State.stopListCommand
  split
  · exact (EngineOnly.refl s).result _ _
  all_goals exact (stopList_engineOnly s).result _ _

theorem resetEngine_controlOnly (s : State) : ControlOnly s s.resetEngine :=
  ⟨_, _, _, _, _, _, _, _, _, _, _, _, _, rfl⟩

theorem ControlOnly.unlessReset {s t : State} (h : ControlOnly s t) : ControlOnly s (s.unlessReset t) :=
  unlessReset_keeps (P := ControlOnly s) (.of_engine (.refl s)) h

/-- A control command changes CONTROL_RESULT beside the engine's work (R167). -/
theorem exec_control_only {i : Instr} {s t : State} (he : exec i s = .next t)
    (hi : i = .resume ∨ i = .flush ∨ i = .listStart ∨ i = .listStop ∨ (∃ k, i = .define k ∨ i = .release k)
      ∨ (∃ tag, i = .abortTag tag) ∨ i = .engineReset) : ControlOnly s t := by
  rcases hi with rfl | rfl | rfl | rfl | ⟨k, rfl | rfl⟩ | ⟨tag, rfl⟩ | rfl <;> cases next_inj he
  · exact (resumeDispatch_controlOnly s).unlessReset
  · exact (flushQueue_controlOnly s).unlessReset
  · exact (startList_controlOnly s).unlessReset
  · exact (stopListCommand_controlOnly s).unlessReset
  · exact (defineSurface_controlOnly s k).unlessReset
  · exact (releaseSurface_controlOnly s k).unlessReset
  · exact (abortByTag_controlOnly s tag).unlessReset
  · exact (resetEngine_controlOnly s).unlessReset

/-- POST changes POST_RESULT beside the engine's work (R50). -/
theorem exec_post_only {s t : State} (he : exec .post s = .next t) : EngineOnly { s with postResult := t.postResult } t := by
  cases next_inj he
  refine unlessReset_keeps (P := fun u => EngineOnly { s with postResult := u.postResult } u) (.refl s) ?_
  unfold State.postStaged
  dsimp only
  split
  · exact .refl _
  · rename_i e _
    obtain ⟨_, henqueue⟩ := enqueue_only s e
    have hexamine := examineIf_engineOnly { s.enqueue e with postResult :=
      { code := .accepted, tag := (decodeCommand s.commandStaging.toList).tag, count := (s.enqueue e).queue.length } }
      s.queue.isEmpty
    obtain ⟨_, _, _, _, _, _, _, _, _, _, _, _, _, hafter⟩ := hexamine
    rw [hafter, henqueue]
    exact ⟨_, _, _, _, _, _, _, _, _, _, _, _, _, rfl⟩

/-! ### The host's registers -/

/-- Settles O59. -/
theorem hostSideChangesByHostAlone : Obligations.HostSideChangesByHostAlone := by
  intro i s t he
  refine ⟨fun hi => ?_, fun hi => ?_, fun hi => ?_⟩
  · have hsettings : SettingsKept s t := by
      rcases hi with rfl | rfl | rfl | ⟨_, rfl⟩ | ⟨_, rfl | rfl | rfl | rfl⟩ <;> exact exec_settings rfl he nofun nofun
    by_cases htick : i = .tick
    · subst htick
      exact ⟨hostSide_of_engine (exec_tick_only he) hsettings, fun h => absurd rfl h⟩
    · have hengine : EngineOnly s t := by
        refine exec_event_engineOnly he ?_
        rcases hi with h | h | h | h
        · exact .inl h
        · exact .inr (.inl h)
        · exact absurd h htick
        · exact .inr (.inr h)
      have hdivider : t.divider = s.divider := by
        obtain ⟨_, _, _, _, _, _, _, _, _, _, _, _, _, rfl⟩ := hengine
        rfl
      rw [hdivider]
      exact ⟨hostSide_of_engine hengine hsettings, fun _ => rfl⟩
  · subst hi
    have hsettings : SettingsKept s t := exec_settings rfl he nofun nofun
    exact hostSide_of_engine (exec_post_only he) hsettings
  · have hsettings : SettingsKept s t := by
      rcases hi with rfl | rfl | rfl | rfl | ⟨_, rfl | rfl⟩ | ⟨_, rfl⟩ | rfl <;> exact exec_settings rfl he nofun nofun
    exact hostSide_of_engine (exec_control_only he hi) hsettings

end Sys2Proof.Machine
end

section
/-! The bounds of the queues and of the settings, and posters that wait only for a full completion queue (O46). -/

namespace Sys2Proof.Machine

open Sys2Proof.Safety

/-! ### Capacities -/

theorem finish_frame (s : State) (m : MoverIndex) (o : Outcome) (f : Option FaultItem) :
    (s.finish m o f).queue = s.queue ∧ (s.finish m o f).completions = s.completions
      ∧ (s.finish m o f).sequence = s.sequence ∧ (s.finish m o f).reader = s.reader := by
  obtain ⟨_, _, _, _, h⟩ := finish_portOnly s m o f
  rw [h]
  exact ⟨rfl, rfl, rfl, rfl⟩

theorem hasSlot_iff (s : State) : s.hasSlot = true ↔ s.completions.length < 32 := decide_eq_true_iff

theorem withinCapacity_congr {s t : State} (hq : t.queue = s.queue) (hc : t.completions = s.completions)
    (h : WithinCapacity s) : WithinCapacity t := by
  unfold WithinCapacity
  rw [hq, hc]
  exact h

/-- An entry enters a queue of fewer than 16, and a record one of fewer than 32 (R47, R119, R121). -/
theorem capacity_steps : StepKeeps False WithinCapacity where
  calm hc := withinCapacity_congr hc.queue hc.completions
  finished {s m} o f _ := by
    obtain ⟨hq, hc, -, -⟩ := finish_frame s m o f
    exact withinCapacity_congr hq hc
  dispatcher _ h := h
  served {s m} h := by
    rcases serveMover_cases s m with ⟨heq, -⟩ | ⟨⟨-, -, -, hslot⟩, _, _, _, _, _, -, -, heq⟩ <;> rw [heq]
    · exact h
    · exact ⟨h.1, by simpa using (hasSlot_iff s).mp hslot⟩
  reported {s e q} o hq hslot h := by
    obtain ⟨_, _, _, hr⟩ := report_only s e o
    rw [hr]
    refine ⟨?_, by simpa using (hasSlot_iff s).mp hslot⟩
    have := h.1
    simp only [List.length_tail]
    omega
  issued {s _ _ _} _ _ h := by
    obtain ⟨_, hr⟩ := removeHead_only s
    rw [hr]
    refine ⟨?_, h.2⟩
    have := h.1
    simp only [setMover_queue, List.length_tail]
    omega
  enqueued {s _ e} he h := by
    obtain ⟨_, henqueue⟩ := enqueue_only s e
    rw [henqueue]
    refine ⟨?_, h.2⟩
    have := verdict_accepted_room he
    simp only [List.length_append, List.length_singleton]
    omega
  held _ _ h := h
  popped {s r rest} hr h := by
    refine ⟨h.1, ?_⟩
    have := h.2
    rw [hr, List.length_cons] at this
    exact Nat.le_of_succ_le this

/-- Of a queue without entries and one without records, or of fewer than before, the bounds hold. -/
theorem capacity_of_fewer {s t : State} (hq : t.queue.length ≤ s.queue.length)
    (hc : t.completions.length ≤ s.completions.length) (h : WithinCapacity s) : WithinCapacity t :=
  ⟨hq.trans h.1, hc.trans h.2⟩

theorem flushQueue_lists (s : State) :
    s.flushQueue.queue = [] ∧ s.flushQueue.completions = s.completions ∧ s.flushQueue.sequence = s.sequence
      ∧ s.flushQueue.movers = s.movers := by
  have hcalm := flushQueue_calm (w := False) s
  obtain ⟨_, _, _, hflushed⟩ := flushed_only s
  rw [hflushed] at hcalm
  refine ⟨hcalm.queue, hcalm.completions, hcalm.sequence, ?_⟩
  obtain ⟨raised, hraise⟩ := raiseIf_causes_only (flushed s).stopList (s.freeSlots < s.lowWater) .lowWater
  show ((flushed s).stopList.raiseIf (s.freeSlots < s.lowWater) .lowWater).movers = s.movers
  rw [hraise, stopList_eq, hflushed]

theorem withinCapacity_kept {i : Instr} {s t : State} (hw : i.wellFormed = true) (he : exec i s = .next t)
    (h : WithinCapacity s) : WithinCapacity t :=
  capacity_steps.event.exec hw he False.elim h
    (fun offset v _ => withinCapacity_congr (writePlain_undisturbed (w := False) s offset v).queue
      (writePlain_undisturbed (w := False) s offset v).completions h)
    (fun _ _ => capacity_steps.event.abortByTag (capacity_of_fewer (s := s) (by simp) (Nat.le_refl _) h) fun _ => h)
    (fun _ => capacity_of_fewer (by simp [flushQueue_lists]) (by simp [flushQueue_lists]) h)
    (fun _ => ⟨Nat.zero_le _, Nat.zero_le _⟩) (fun _ => ⟨Nat.zero_le _, Nat.zero_le _⟩)

/-! ### A list reader that waits for space -/

/-- The capacities, and a reader that waits for space with nothing due only at a full queue (R139). -/
def SpaceSound (s : State) : Prop :=
  WithinCapacity s ∧ WaitSpaceFull s

/-- A removal makes the presentation of a waiting reader due (R51). -/
theorem waitSpaceFull_removed {s t : State}
    (hr : t.reader = { s.reader with due := s.reader.due || s.reader.state == .waitSpace }) : WaitSpaceFull t := by
  intro hstate hdue
  rw [hr] at hstate hdue
  have hstate : s.reader.state = .waitSpace := hstate
  simp [hstate] at hdue

theorem waitSpaceFull_congr {s t : State} (hq : t.queue = s.queue) (hr : t.reader = s.reader) (h : WaitSpaceFull s) :
    WaitSpaceFull t := by
  unfold WaitSpaceFull
  rw [hq, hr]
  exact h

theorem space_steps : StepKeeps False SpaceSound where
  calm hc h := by
    refine ⟨capacity_steps.calm hc h.1, fun hstate hdue => ?_⟩
    obtain ⟨hstate, hdue⟩ := hc.reader hstate hdue
    rw [hc.queue]
    exact h.2 hstate hdue
  finished {s m} o f hb h := by
    obtain ⟨hq, -, -, hr⟩ := finish_frame s m o f
    exact ⟨capacity_steps.finished o f hb h.1, waitSpaceFull_congr hq hr h.2⟩
  dispatcher _ h := h
  served {s m} h := by
    refine ⟨capacity_steps.served h.1, ?_⟩
    rcases serveMover_cases s m with ⟨heq, -⟩ | ⟨-, _, _, _, _, _, -, -, heq⟩ <;> rw [heq] <;> exact h.2
  reported {s e q} o hq hslot h := by
    refine ⟨capacity_steps.reported o hq hslot h.1, ?_⟩
    obtain ⟨_, _, _, hr⟩ := report_only s e o
    exact waitSpaceFull_removed (s := s) (by rw [hr])
  issued {s _ _ m} hq hd h := by
    refine ⟨capacity_steps.issued hq hd h.1, ?_⟩
    obtain ⟨_, hr⟩ := removeHead_only s
    exact waitSpaceFull_removed (s := s) (by rw [hr]; rfl)
  enqueued {s _ e} he h := by
    refine ⟨capacity_steps.enqueued he h.1, fun hstate hdue => ?_⟩
    rw [enqueue_reader] at hstate hdue
    have hfull := h.2 hstate hdue
    have := verdict_accepted_room he
    omega
  held {s} record hfull h := ⟨h.1, fun _ _ => Nat.le_antisymm h.1.1 hfull⟩
  popped hr h := ⟨capacity_steps.popped hr h.1, h.2⟩

theorem waitSpaceFull_kept {i : Instr} {s t : State} (hw : i.wellFormed = true) (he : exec i s = .next t)
    (hcapacity : WithinCapacity s) (h : WaitSpaceFull s) : WaitSpaceFull t := by
  have hspace : SpaceSound s := ⟨hcapacity, h⟩
  suffices SpaceSound t from this.2
  refine space_steps.event.exec hw he False.elim hspace (fun offset v _ => ?_)
    (fun tag _ => space_steps.event.abortByTag ⟨capacity_of_fewer (s := s) (by simp) (Nat.le_refl _) hcapacity, ?_⟩
      fun _ => hspace)
    (fun _ => ⟨capacity_of_fewer (by simp [flushQueue_lists]) (by simp [flushQueue_lists]) hcapacity, ?_⟩)
    (fun _ => ⟨⟨Nat.zero_le _, Nat.zero_le _⟩, nofun⟩) (fun _ => ⟨⟨Nat.zero_le _, Nat.zero_le _⟩, nofun⟩)
  · have hwrite := writePlain_undisturbed (w := False) s offset v
    refine ⟨withinCapacity_congr hwrite.queue hwrite.completions hcapacity, fun hstate hdue => ?_⟩
    obtain ⟨hstate, hdue⟩ := hwrite.reader hstate hdue
    rw [hwrite.queue]
    exact h hstate hdue
  · exact fun hstate hdue => (List.length_map _).trans (h hstate hdue)
  · have hidle : (flushed s).stopList.reader.state ≠ .waitSpace := by
      rw [stopList_eq]
      dsimp only
      split
      · rename_i hidle
        simp [hidle]
      · nofun
    obtain ⟨_, hraise⟩ := raiseIf_causes_only (flushed s).stopList (s.freeSlots < s.lowWater) .lowWater
    have hreader : s.flushQueue.reader = (flushed s).stopList.reader := by
      show ((flushed s).stopList.raiseIf (s.freeSlots < s.lowWater) .lowWater).reader = _
      rw [hraise]
    exact fun hstate => absurd (hreader ▸ hstate) hidle

/-! ### Sequence numbers -/

theorem sequence_congr {s t : State} (hc : t.completions = s.completions) (hn : t.sequence = s.sequence)
    (h : SequenceConsecutive s) : SequenceConsecutive t := by
  unfold SequenceConsecutive
  rw [hc, hn]
  exact h

theorem sequence_of_empty {s : State} (hc : s.completions = []) : SequenceConsecutive s := by
  simp [SequenceConsecutive, hc]

/-- A record that takes the counter's number, which then advances (R120). -/
theorem sequence_append {s t : State} {r : Completion} (hc : t.completions = s.completions ++ [{ r with sequence := s.sequence }])
    (hn : t.sequence = s.sequence + 1) (h : SequenceConsecutive s) : SequenceConsecutive t := by
  have step (x : BitVec 16) (a : Nat) : x + 1 - BitVec.ofNat 16 (a + 1) = x - BitVec.ofNat 16 a := by
    rw [BitVec.ofNat_add]
    exact add_sub_add_right_eq_sub _ _ _
  unfold SequenceConsecutive at h ⊢
  rw [hc, hn, List.map_append, h, List.length_append, List.length_singleton, List.range_succ, List.map_append]
  congr 1
  · refine List.map_congr_left fun i hi => ?_
    rw [Nat.sub_add_comm (Nat.le_of_lt (List.mem_range.mp hi)), step]
  · simp

/-- The head record goes, and the others keep their numbers (R125). -/
theorem sequence_pop {s t : State} {r : Completion} (hc : s.completions = r :: t.completions) (hn : t.sequence = s.sequence)
    (h : SequenceConsecutive s) : SequenceConsecutive t := by
  unfold SequenceConsecutive at h ⊢
  rw [hc, List.length_cons, List.range_succ_eq_map, List.map_cons, List.map_cons, List.map_map] at h
  rw [hn, (List.cons.inj h).2]
  refine List.map_congr_left fun i _ => ?_
  simp only [Function.comp_apply, Nat.succ_eq_add_one, Nat.add_sub_add_right]

theorem sequence_steps : StepKeeps False SequenceConsecutive where
  calm hc := sequence_congr hc.completions hc.sequence
  finished {s m} o f _ := by
    obtain ⟨-, hc, hn, -⟩ := finish_frame s m o f
    exact sequence_congr hc hn
  dispatcher _ h := h
  served {s m} h := by
    rcases serveMover_cases s m with ⟨heq, -⟩ | ⟨-, _, _, _, _, _, -, -, heq⟩ <;> rw [heq]
    · exact h
    · exact sequence_append (s := s) rfl rfl h
  reported {s e _} o _ _ h := by
    obtain ⟨-, hc, hn, -⟩ := report_frame s e o
    exact sequence_append hc hn h
  issued {s _ _ _} _ _ h := by
    obtain ⟨_, hr⟩ := removeHead_only s
    rw [hr]
    exact h
  enqueued {s _ e} _ h := by
    obtain ⟨_, henqueue⟩ := enqueue_only s e
    rw [henqueue]
    exact h
  held _ _ h := h
  popped {s _ _} hr h := sequence_pop (s := s) hr rfl h

theorem sequence_kept {i : Instr} {s t : State} (hw : i.wellFormed = true) (he : exec i s = .next t)
    (h : SequenceConsecutive s) : SequenceConsecutive t :=
  sequence_steps.event.exec hw he False.elim h
    (fun offset v _ => sequence_congr (writePlain_undisturbed (w := False) s offset v).completions
      (writePlain_undisturbed (w := False) s offset v).sequence h)
    (fun _ _ => sequence_steps.event.abortByTag h fun _ => h)
    (fun _ => sequence_congr (flushQueue_lists s).2.1 (flushQueue_lists s).2.2.1 h)
    (fun _ => sequence_of_empty rfl) (fun _ => sequence_of_empty rfl)

/-! ### Settings -/

theorem settingsInRange_congr {s t : State} (hc : t.completionThreshold = s.completionThreshold) (hl : t.lowWater = s.lowWater)
    (ht : t.timeBase = s.timeBase) (h : SettingsInRange s) : SettingsInRange t := by
  unfold SettingsInRange
  rw [hc, hl, ht]
  exact h

theorem settingsInRange_hostSide {s t : State} (h : HostSideKept s t) (hs : SettingsInRange s) : SettingsInRange t := by
  obtain ⟨-, -, -, -, -, -, -, -, htime, -, -, -, hthreshold, hwater, -⟩ := h
  exact settingsInRange_congr hthreshold hwater htime hs

theorem clamp_range {lo hi : Nat} (h : lo ≤ hi) (v : Nat) : lo ≤ clamp lo hi v ∧ clamp lo hi v ≤ hi := by
  unfold clamp
  omega

theorem writePlain_settings {s : State} (offset : Offset) (v : Word) (h : SettingsInRange s) :
    SettingsInRange (s.writePlain offset v) := by
  have hthreshold := clamp_range (lo := 1) (hi := Config.completionCapacity) (by decide) (field v 0 8)
  have hwater := clamp_range (lo := 1) (hi := Config.queueCapacity) (by decide) (field v 8 8)
  have htime : 1 ≤ s.timeBase ∧ s.timeBase ≤ 65536 := by
    obtain ⟨-, -, -, -, htime⟩ := h
    exact htime
  unfold State.writePlain
  dsimp only
  split
  · exact h
  · split
    · exact h
    · split
      · exact h
      · split
        · exact h
        · split
          · exact ⟨hthreshold.1, hthreshold.2, hwater.1, hwater.2, htime⟩
          · split <;> exact h

theorem settingsInRange_engine {s t : State} (h : EngineOnly s t) (hs : SettingsInRange s) : SettingsInRange t := by
  obtain ⟨_, _, _, _, _, _, _, _, _, _, _, _, _, rfl⟩ := h
  exact hs

theorem popCompletion_settings {s : State} (h : SettingsInRange s) : SettingsInRange s.popCompletion := by
  unfold State.popCompletion
  split
  · exact h
  · rename_i rest _
    have hrest : EngineOnly s { s with completions := rest } := ⟨_, _, _, _, _, _, _, _, _, _, _, _, _, rfl⟩
    dsimp only
    split
    · exact h
    · exact settingsInRange_engine ((hrest.trans (settle_engineOnly _)).trans (eitherOrder_engineOnly s _)) h

/-- The settings come from writes that keep them within their ranges, and from a full reset (R54, R99, R128). -/
theorem settingsInRange_kept {i : Instr} {s t : State} (hw : i.wellFormed = true) (he : exec i s = .next t)
    (h : SettingsInRange s) : SettingsInRange t := by
  obtain ⟨hevent, hpost, hcontrol⟩ := hostSideChangesByHostAlone i s t he
  have event (k : HostSideKept { s with divider := t.divider } t) : SettingsInRange t :=
    settingsInRange_hostSide (s := { s with divider := t.divider }) k h
  have control (k : HostSideKept { s with controlResult := t.controlResult } t) : SettingsInRange t :=
    settingsInRange_hostSide (s := { s with controlResult := t.controlResult }) k h
  have write {u : State} (hu : SettingsInRange u) : SettingsInRange (s.unlessReset u) := unlessReset_keeps h hu
  cases i
  case define k => exact control (hcontrol (by simp))
  case release k => exact control (hcontrol (by simp))
  case resume => exact control (hcontrol (by simp))
  case flush => exact control (hcontrol (by simp))
  case abortTag tag => exact control (hcontrol (by simp))
  case listStart => exact control (hcontrol (by simp))
  case listStop => exact control (hcontrol (by simp))
  case engineReset => exact control (hcontrol (by simp))
  case post => exact settingsInRange_hostSide (s := { s with postResult := t.postResult }) (hpost rfl) h
  case preqActive n => exact event (hevent (by simp)).1
  case preqInactive n => exact event (hevent (by simp)).1
  case pendFall n => exact event (hevent (by simp)).1
  case tick => exact event (hevent (by simp)).1
  case timerExpiry n => exact event (hevent (by simp)).1
  case beatAnswered d => exact event (hevent (by simp)).1
  case beatError => exact event (hevent (by simp)).1
  case waitSpacePresentation => exact event (hevent (by simp)).1
  all_goals cases next_inj he
  case unknownCommand code operand =>
    rw [control_unknown hw]
    exact write (u := s.unknownControl) h
  case completionPop => exact write (popCompletion_settings h)
  case intCauseWrite v => exact write (u := s.writeIntCause v) h
  case intEnableWrite v => exact write (u := s.writeIntEnable v) h
  case freedSetWrite v => exact write (u := s.writeFreedSet v) h
  case statusWrite v =>
    refine write ?_
    unfold State.writeStatus
    split <;> exact h
  case timeBaseWrite v =>
    obtain ⟨hc1, hc2, hl1, hl2, -⟩ := h
    exact write (u := s.writeTimeBase v) ⟨hc1, hc2, hl1, hl2, clamp_range (by decide) v.toNat⟩
  case registerWrite offset v =>
    rw [writeWord_plain (by simpa [Instr.wellFormed] using hw)]
    exact write (writePlain_settings offset v h)
  case nonWordAccess access offset enables =>
    rw [if_neg (by simpa [Instr.wellFormed] using hw)]
    exact write (u := s.nonWord) h
  case fullReset => exact (by decide : SettingsInRange State.reset)
  case resetRelease =>
    show SettingsInRange s.leaveReset
    unfold State.leaveReset
    split <;> exact h

/-! ### Posters -/

/-- A mover in POST holds the transfer and the outcome that its record takes (R92). -/
def PostReady (s : State) : Prop :=
  ∀ m, (s.mover m).state = .post → (s.mover m).transfer.isSome ∧ (s.mover m).outcome.isSome

/-- And it waits for a full completion queue (R121, R122). -/
def MoversServed (s : State) : Prop :=
  PostReady s ∧ ∀ m, (s.mover m).state = .post → 32 ≤ s.completions.length

theorem postReady_calm {s t : State} (hc : Undisturbed True s t) (h : PostReady s) : PostReady t := by
  intro m hm
  have hcalm := hc.mover trivial m
  rw [hcalm.transfer, hcalm.outcome]
  exact h m (hcalm.post_iff.mp hm)

theorem moversServed_calm {s t : State} (hc : Undisturbed True s t) (h : MoversServed s) : MoversServed t := by
  refine ⟨postReady_calm hc h.1, fun m hm => ?_⟩
  rw [hc.completions]
  exact h.2 m ((hc.mover trivial m).post_iff.mp hm)

/-- The same movers, and no record gone. -/
theorem moversServed_grows {s t : State} (hm : t.movers = s.movers) (hc : s.completions.length ≤ t.completions.length)
    (h : MoversServed s) : MoversServed t := by
  refine ⟨fun m => ?_, fun m => ?_⟩ <;> rw [mover_congr hm]
  · exact h.1 m
  · exact fun hpost => (h.2 m hpost).trans hc

/-- A mover that has left POST, or was not there. -/
theorem postReady_setMover {s : State} {m : MoverIndex} {v : Mover} (hv : v.state ≠ .post) (h : PostReady s) :
    PostReady (s.setMover m v) := by
  intro k hk
  by_cases hkm : k = m
  · rw [hkm, setMover_mover] at hk
    exact absurd hk hv
  · rw [setMover_mover_ne s hkm] at hk ⊢
    exact h k hk

theorem take_not_post (e : Entry) : (Mover.take e).state ≠ .post := by
  obtain ⟨h | h, -⟩ := take_busy e <;> simp [h]

/-- An examination posts records of the dispatcher and gives transfers to IDLE movers (R57). -/
theorem examine_served {s : State} (h : MoversServed s) : MoversServed s.examine := by
  refine examineHead_keeps MoversServed (fun u e _ o hu _ _ _ _ => ?_) (fun u e _ m hu _ _ _ => ?_)
    (fun _ _ _ hu _ _ _ => hu) _ s h
  · obtain ⟨-, hc, -, hmovers, -, -⟩ := report_frame u e o
    exact moversServed_grows hmovers (by simp [hc]) hu
  · refine moversServed_calm (issue_calm u m e).toUndisturbed ?_
    obtain ⟨_, hr⟩ := removeHead_only u
    rw [hr]
    refine ⟨postReady_setMover (s := u) (take_not_post e) hu.1, fun k hk => ?_⟩
    by_cases hkm : k = m
    · rw [hkm, setMover_mover] at hk
      exact absurd hk (take_not_post e)
    · rw [setMover_mover_ne _ hkm] at hk
      exact hu.2 k hk

/-- A mover that has been served waits for a full completion queue, and so does one that did before (R121). -/
theorem serveMover_served {s : State} (m : MoverIndex) (h : PostReady s) :
    PostReady (s.serveMover m) ∧ s.completions.length ≤ (s.serveMover m).completions.length
      ∧ (((s.serveMover m).mover m).state = .post → 32 ≤ (s.serveMover m).completions.length)
      ∧ ∀ k, k ≠ m → (s.serveMover m).mover k = s.mover k := by
  rcases serveMover_cases s m with ⟨heq, hnot⟩ | ⟨-, _, _, _, _, _, -, -, heq⟩ <;> rw [heq]
  · refine ⟨h, Nat.le_refl _, fun hpost => ?_, fun _ _ => rfl⟩
    obtain ⟨htransfer, houtcome⟩ := h m hpost
    exact Nat.le_of_not_lt fun hroom => hnot ⟨hpost, htransfer, houtcome, (hasSlot_iff s).mpr hroom⟩
  · refine ⟨postReady_setMover (s := s) nofun h, by simp, fun hpost => ?_, fun k hk => setMover_mover_ne s hk _⟩
    have hidle : ((s.setMover m Mover.idle).mover m).state = .post := hpost
    rw [setMover_mover] at hidle
    cases hidle

theorem settle_served {s : State} (h : PostReady s) : MoversServed s.settle := by
  obtain ⟨hready, -, hzero, -⟩ := serveMover_served 0 h
  obtain ⟨hready, hgrows, hone, hothers⟩ := serveMover_served 1 hready
  refine examine_served ⟨hready, fun m hm => ?_⟩
  fin_cases m
  · exact (hzero (by rw [← hothers 0 (by decide)]; exact hm)).trans hgrows
  · exact hone hm

/-- A transfer that ends is posted in its event, or finds the completion queue full (R92, R121). -/
theorem served_event : EventKeeps True MoversServed PostReady MoversServed where
  calmBefore hc := moversServed_calm hc.toUndisturbed
  calmWithin hc := postReady_calm hc.toUndisturbed
  calmAfter hc := moversServed_calm hc.toUndisturbed
  opens h := h.1
  closes := id
  finished {s m} o f hb h := by
    intro k hk
    by_cases hkm : k = m
    · subst hkm
      rw [finish_mover]
      exact ⟨(hb trivial).2, rfl⟩
    · rw [(finish_work s m o f).others k hkm] at hk ⊢
      exact h k hk
  captured {s} r h := by
    unfold State.captureFault
    split
    · exact h
    · exact moversServed_grows (s := s) rfl (Nat.le_refl _) h
  settled := settle_served
  accepted {s _ e u} _ hu h := by
    have hqueued : MoversServed u := by
      refine moversServed_calm hu.toUndisturbed ?_
      obtain ⟨_, henqueue⟩ := enqueue_only s e
      rw [henqueue]
      exact h
    cases s.queue.isEmpty
    · exact hqueued
    · exact examine_served hqueued
  held _ _ h := h
  resumed _ h := examine_served h
  popped {s r rest} hr h := by
    refine ⟨fun hroom => ⟨h.1, fun m hm => ?_⟩, fun _ => h.1⟩
    have hfull := h.2 m hm
    omega

theorem moversServed_idle {s : State} (h : ∀ m, s.mover m = Mover.idle) : MoversServed s := by
  refine ⟨fun m hm => ?_, fun m hm => ?_⟩ <;> rw [h] at hm <;> cases hm

theorem moversServed_kept {i : Instr} {s t : State} (hw : i.wellFormed = true) (he : exec i s = .next t)
    (hsound : EngineSound s) (h : MoversServed s) : MoversServed t := by
  refine served_event.exec hw he (fun _ => ready_of_sound hsound) h
    (fun offset v _ => moversServed_calm (writePlain_undisturbed s offset v) h)
    (fun _ _ => served_event.abortByTag (s := s) h.1 fun _ => h)
    (fun _ => moversServed_grows (flushQueue_lists s).2.2.2 (by simp [flushQueue_lists]) h)
    (fun _ => moversServed_idle fun m => ?_) (fun _ => moversServed_idle fun m => ?_) <;>
  fin_cases m <;> rfl

/-- A slot request is outstanding only at a full completion queue (R62, R68). -/
theorem full_of_slotRequest {s : State} (h : DispatcherSound s) (hslot : s.dispatcher.slotRequest = true) :
    32 ≤ s.completions.length := by
  obtain ⟨hwait, hspace, -⟩ := h
  rw [hspace.mp hslot] at hwait
  unfold expectedWait at hwait
  split at hwait
  · cases hwait
  · split at hwait
    · cases hwait
    · split at hwait
      · split at hwait
        · cases hwait
        · rename_i hfull
          exact Nat.le_of_not_lt hfull
      · exact absurd hwait (holdOf_ne_space s _)

/-- Settles O46: each part is kept by the few operations that are not calm. -/
theorem queuesStayBounded : Obligations.QueuesStayBounded := by
  intro i s t he
  obtain ⟨j, hw, hj⟩ := exec_as_wellFormed i s
  have he' : exec j s = .next t := hj ▸ he
  refine ⟨withinCapacity_kept hw he', sequence_kept hw he', settingsInRange_kept hw he',
    fun hsound hdispatcher hcapacity hserved => ?_, waitSpaceFull_kept hw he'⟩
  have hbound := (withinCapacity_kept hw he' hcapacity).2
  have hready : PostReady s := fun m hm => by
    obtain ⟨-, hbusy, houtcome, -⟩ := hsound.1 m
    obtain ⟨x, hx, -⟩ := hbusy (by simp [hm])
    exact ⟨by simp [Option.mem_def.mp hx], houtcome.mp hm⟩
  have hmovers := moversServed_kept hw he' hsound ⟨hready, fun m hm => (hserved.1 m hm).ge⟩
  have hdispatcher' := dispatcherNeverBehind.1 i s t hsound hdispatcher he
  exact ⟨fun m hm => Nat.le_antisymm hbound (hmovers.2 m hm),
    fun hslot => Nat.le_antisymm hbound (full_of_slotRequest hdispatcher' hslot)⟩

end Sys2Proof.Machine
end

section
/-! A FENCE posted on an idle device (O15), and the issue of a head (O19). -/

namespace Sys2Proof.Machine

open Sys2Proof.Safety

/-! ### Causes of a posting and of a removal -/

/-- A record raises COMPLETION at its threshold, and SIGNAL where it carries it (R128, R129). -/
theorem appendRecord_causeSet (s : State) (r : Completion) (k : Cause) :
    (s.appendRecord r).causeSet k =
      (s.causeSet k || (k == .completion && decide (s.completionThreshold ≤ s.completions.length + 1))
        || (k == .signal && r.signal)) := by
  unfold State.appendRecord
  dsimp only
  rw [raiseIf_causeSet, raiseIf_causeSet, List.length_append, List.length_singleton]
  rfl

/-- A removal raises LOW_WATER where it brings the free entries to the mark (R55). -/
theorem removeHead_causeSet (s : State) (k : Cause) :
    s.removeHead.causeSet k = (s.causeSet k || (k == .lowWater && s.lowWater == 16 - s.queue.tail.length)) := by
  have hmark : decide (16 - s.queue.tail.length = s.lowWater) = (s.lowWater == 16 - s.queue.tail.length) := by
    rw [Bool.eq_iff_iff, decide_eq_true_iff, beq_iff_eq]
    exact eq_comm
  rw [← hmark]
  exact raiseIf_causeSet { s with queue := s.queue.tail } _ .lowWater k

/-- A command without surfaces has no reference to return (R16). -/
theorem returnRefs_of_none {e : Entry} (h : e.surfaces = []) (s : State) : s.returnRefs e = s := by
  rw [State.returnRefs, h, List.foldl_nil]

/-! ### POST of a FENCE -/

/-- The state that the acceptance of a FENCE leaves in an empty queue (R46, R50). -/
def State.fenceQueued (s : State) (c : Command) : State :=
  { s with
    queue := [fenceEntry c]
    postResult := { code := .accepted, tag := c.tag, count := 1 } }

theorem post_fence {s : State} (hreset : s.inReset = false) {c : Command} (hc : c = decodeCommand s.commandStaging.toList)
    (haccept : acceptanceRefusal s c = none) (hkind : c.kind = some .fence) (hq : s.queue = []) :
    exec .post s = .next (s.fenceQueued c).examine := by
  obtain ⟨e, he⟩ := verdict_accepts haccept
  obtain ⟨-, hentry⟩ := verdict_accepted he
  have hfence : e = fenceEntry c := by
    cases hentry with
    | fence _ => rfl
    | fill hk _ => simp [hkind] at hk
    | move hk _ _ => simp [hkind] at hk
  subst hfence
  refine (congrArg _ (unlessReset_high hreset _)).trans (congrArg _ ?_)
  have hqueue : s.enqueue (fenceEntry c) = { s with queue := [fenceEntry c] } := congrArg (fun q => { s with queue := q }) (by
    rw [hq, List.nil_append])
  unfold State.postStaged
  dsimp only
  rw [← hc, he]
  dsimp only
  rw [hqueue, hq]
  rfl

/-- Settles O15: the FENCE is the head at once, its condition holds, and its report empties the queue. -/
theorem postedFenceReportsAtOnce : Obligations.PostedFenceReportsAtOnce := by
  intro s hreset c haccept hkind hq hrun hzero hone hroom
  have hreport : reportOf (s.fenceQueued c) (fenceEntry c) = some .fence := by
    have hidle : MoversIdle (s.fenceQueued c) := ⟨hzero, hone⟩
    simp [reportOf, fenceEntry, hidle]
  have hslot : (s.fenceQueued c).hasSlot = true := (hasSlot_iff _).mpr hroom
  have hexamine := examine_single (s := s.fenceQueued c) hrun rfl
  rw [decision_of_report hreport] at hexamine
  simp only [hslot, if_true] at hexamine
  refine ⟨_, post_fence hreset rfl haccept hkind hq, ?_⟩
  obtain ⟨hqueue, hrecords, hsequence, hmovers, hlines, hdispatcher⟩ := report_frame (s.fenceQueued c) (fenceEntry c) .fence
  have hrefs : (s.fenceQueued c).report (fenceEntry c) .fence =
      ((s.fenceQueued c).appendRecord (dispatcherRecord (fenceEntry c) .fence)).removeHead := returnRefs_of_none rfl _
  obtain ⟨_, hr⟩ := appendRecord_only (s.fenceQueued c) (dispatcherRecord (fenceEntry c) .fence)
  obtain ⟨_, hh⟩ := removeHead_only ((s.fenceQueued c).appendRecord (dispatcherRecord (fenceEntry c) .fence))
  rw [hexamine]
  refine ⟨hqueue, ?_, hrecords, hsequence, ?_, ?_, hmovers, hlines, ?_, fun k => ?_⟩
  · show ((s.fenceQueued c).report (fenceEntry c) .fence).postResult = _
    rw [hrefs, hh, hr]
    rfl
  · rw [State.setWait, hdispatcher]
    rfl
  · show ((s.fenceQueued c).report (fenceEntry c) .fence).surfaces = _
    rw [hrefs, hh, hr]
    rfl
  · show ((s.fenceQueued c).report (fenceEntry c) .fence).grant = _
    rw [hrefs, hh, hr]
    rfl
  · show ((s.fenceQueued c).report (fenceEntry c) .fence).causeSet k = _
    rw [hrefs, removeHead_causeSet, appendRecord_causeSet, hr]
    rfl

/-! ### The checks of an issue -/

theorem reportOf_none {s : State} {e : Entry} (hc : e.cancelled = false) (hk : e.kind ≠ .fence) (he : e.isEmpty = false) :
    reportOf s e = none := by
  unfold reportOf
  rw [if_neg (by simp [hc]), if_neg hk, if_neg (mt (isEmpty_iff hk).mpr (by simp [he]))]

theorem lowestIdle_of_issue {s : State} {e : Entry} {m : MoverIndex} (h : s.decision e = .issue m) : LowestIdle s m := by
  have hcase := decision_case s e
  rw [h] at hcase
  cases hcase with
  | issue _ _ hm => exact hm

theorem apart_iff (e t : Entry) : Apart e t ↔ e.conflicts t = false ∧ (e.line = none ∨ e.line ≠ t.line) := by
  refine and_congr_right fun _ => ?_
  simp only [Entry.sharesLine, Bool.and_eq_false_iff, beq_eq_false_iff_ne]
  cases e.line <;> simp

/-- A MOVE or FILL with elements is issued exactly with its three conditions (R63 to R65). -/
theorem decision_issue_iff {s : State} {e : Entry} {m : MoverIndex} (hc : e.cancelled = false) (hk : e.kind ≠ .fence)
    (he : e.isEmpty = false) : s.decision e = .issue m ↔ (∀ t ∈ s.inFlight, Apart e t) ∧ LowestIdle s m := by
  refine ⟨fun h => ⟨fun t ht => issue_apart h ht, lowestIdle_of_issue h⟩, fun ⟨happart, hm⟩ => ?_⟩
  have hreport := reportOf_none (s := s) hc hk he
  refine decision_of_issue hreport ?_ hm
  unfold holdOf
  rw [if_neg (by simp [hreport]), if_neg hk, if_neg, if_neg, if_neg]
  · rintro ⟨h0, h1⟩
    obtain ⟨hidle, -⟩ := hm
    fin_cases m
    · exact h0 hidle
    · exact h1 hidle
  · rintro ⟨t, ht, hline, hsame⟩
    exact (((apart_iff e t).mp (happart t ht)).2.resolve_left hline) hsame
  · rintro ⟨t, ht, hconflict⟩
    rw [(happart t ht).1] at hconflict
    cases hconflict

/-! ### What an issue leaves -/

/-- The mover with another state, another unit in progress and other bursts; its transfer and its counts as before. -/
def SameCounts (v w : Mover) : Prop :=
  ∃ st side buffer bursts matched request,
    w = { v with state := st, side := side, buffer := buffer, bursts := bursts, matched := matched, request := request }

/-- A unit that starts changes the mover's unit in progress (R74). -/
theorem startUnit_mover (s : State) (m : MoverIndex) :
    SameCounts (s.mover m) ((s.startUnit m).mover m) ∧ ((s.startUnit m).mover m).state = (s.mover m).state := by
  cases ht : (s.mover m).transfer with
  | none =>
    have hnothing : s.startUnit m = s := by
      unfold State.startUnit
      dsimp only
      rw [ht]
    rw [hnothing]
    exact ⟨⟨_, _, _, _, _, _, rfl⟩, rfl⟩
  | some t =>
    obtain ⟨q, hq⟩ := launch_mover (s.setMover m ((s.mover m).beginUnit (startSide t))) m
      (startPlan s t (s.mover m).position)
    rw [startUnit_eq ht, hq, setMover_mover]
    exact ⟨⟨_, _, _, _, _, _, rfl⟩, rfl⟩

theorem admitBurst_mover (s : State) (n : LineIndex) (m : MoverIndex) :
    SameCounts (s.mover m) ((s.admitBurst n m).mover m) ∧ ((s.admitBurst n m).mover m).state = .run := by
  obtain ⟨⟨_, _, _, _, _, _, h⟩, hstate⟩ :=
    startUnit_mover ((s.setLine n (s.line n).admitting).setMover m ((s.mover m).inState .run)) m
  rw [setMover_mover] at h hstate
  exact ⟨⟨_, _, _, _, _, _, h⟩, hstate⟩

theorem waitIn_mover (s : State) (n : LineIndex) (m : MoverIndex) (st : LineState) :
    (s.waitIn n m st).mover m = (s.mover m).inState .pace :=
  setMover_mover _ m _

/-- A binding admits the first burst with PREQn active, and else waits (R101, R102). -/
theorem bind_mover (s : State) (n : LineIndex) (m : MoverIndex) :
    SameCounts (s.mover m) ((s.bind n m).mover m)
      ∧ ((s.bind n m).mover m).state = if (s.line n).request then .run else .pace := by
  unfold State.bind
  dsimp only
  split
  · exact admitBurst_mover (s.setLine n ((s.line n).bindTo m)) n m
  · rw [waitIn_mover]
    exact ⟨⟨_, _, _, _, _, _, rfl⟩, rfl⟩

/-- The state in which the head has gone and its mover holds it, before its first unit (R66). -/
def State.handedOver (s : State) (e : Entry) (m : MoverIndex) : State :=
  s.removeHead.setMover m (Mover.take e)

theorem issue_unpaced {s : State} {e : Entry} {m : MoverIndex} (h : e.line = none) :
    s.issue e m = (s.handedOver e m).startUnit m := by
  unfold State.issue State.handedOver
  rw [h]

theorem issue_paced {s : State} {e : Entry} {m : MoverIndex} {n : LineIndex} (h : e.line = some n) :
    s.issue e m = (s.handedOver e m).bind n m := by
  unfold State.issue State.handedOver
  rw [h]

theorem handedOver_mover (s : State) (e : Entry) (m : MoverIndex) : (s.handedOver e m).mover m = Mover.take e :=
  setMover_mover _ m _

theorem handedOver_frame (s : State) (e : Entry) (m : MoverIndex) :
    (s.handedOver e m).surfaces = s.surfaces ∧ (s.handedOver e m).lines = s.lines ∧ (s.handedOver e m).grant = s.grant
      ∧ ∀ k, k ≠ m → (s.handedOver e m).mover k = s.mover k := by
  obtain ⟨_, h⟩ := removeHead_only s
  unfold State.handedOver
  rw [h]
  exact ⟨rfl, rfl, rfl, fun k hk => setMover_mover_ne s hk _⟩

/-- The counts of a mover that has just taken its transfer are clear (R74). -/
theorem issue_mover (s : State) (e : Entry) (m : MoverIndex) : SameCounts (Mover.take e) ((s.issue e m).mover m) := by
  rw [← handedOver_mover s]
  cases h : e.line with
  | none =>
    rw [issue_unpaced h]
    exact (startUnit_mover _ m).1
  | some n =>
    rw [issue_paced h]
    exact (bind_mover _ n m).1

theorem issue_others (s : State) (e : Entry) {m k : MoverIndex} (hk : k ≠ m) : (s.issue e m).mover k = s.mover k := by
  refine Eq.trans ?_ ((handedOver_frame s e m).2.2.2 k hk)
  cases h : e.line with
  | none =>
    rw [issue_unpaced h]
    exact (startUnit_work _ m).others k hk
  | some n =>
    rw [issue_paced h]
    refine (bind_work (s.handedOver e m) m (n := n) ?_).others k hk
    rw [handedOver_mover]
    exact h

/-- No burst of the mover is in progress where it owns none that is live. -/
theorem heldBursts_none {s : State} {m : MoverIndex} (h : ∀ g ∈ s.grant, g.live = true → g.owner ≠ .mover m) :
    heldBursts s m = [] := by
  unfold heldBursts
  cases hg : s.grant with
  | none => rfl
  | some g => simpa using h g hg

/-- A unit that starts at a mover with nothing outstanding requests its plan (R74, R77). -/
theorem startUnit_outstanding {s : State} {m : MoverIndex} {t : Entry} (ht : (s.mover m).transfer = some t)
    (hheld : heldBursts s m = []) (hrequest : (s.mover m).request = none) :
    outstanding (s.startUnit m) m = startPlan s t (s.mover m).position := by
  rw [startUnit_eq ht]
  exact launch_outstanding _ hheld (by rw [setMover_mover]; exact hrequest)

/-- A line that admits a burst lets its mover request its unit (R101, R104). -/
theorem admitBurst_outstanding {s : State} {m : MoverIndex} {t : Entry} (n : LineIndex)
    (ht : (s.mover m).transfer = some t) (hheld : heldBursts s m = []) (hrequest : (s.mover m).request = none) :
    outstanding (s.admitBurst n m) m = startPlan s t (s.mover m).position := by
  let u := (s.setLine n (s.line n).admitting).setMover m ((s.mover m).inState .run)
  have hmover : u.mover m = (s.mover m).inState .run := setMover_mover _ m _
  have hstart := startUnit_outstanding (s := u) ((congrArg Mover.transfer hmover).trans ht)
    hheld ((congrArg Mover.request hmover).trans hrequest)
  rw [hmover] at hstart
  exact hstart

/-- The plan of a unit rests on the surfaces, which the hand-over leaves. -/
theorem startPlan_handedOver (s : State) (e : Entry) (m : MoverIndex) : startPlan (s.handedOver e m) e 0 = startPlan s e 0 := by
  obtain ⟨_, h⟩ := removeHead_only s
  unfold State.handedOver
  rw [h]
  rfl

section Issue

variable {s : State} {e : Entry} {m : MoverIndex}

theorem issue_blocks :
    (s.issue e m).surfaces = s.surfaces ∧ (s.issue e m).completions = s.completions
      ∧ (s.issue e m).dispatcher = s.dispatcher ∧ ∀ k, (s.issue e m).causeSet k = s.removeHead.causeSet k := by
  obtain ⟨_, _, _, _, hp⟩ := issue_portOnly s m e
  obtain ⟨_, hr⟩ := removeHead_only s
  rw [hp, hr]
  exact ⟨rfl, rfl, rfl, fun _ => rfl⟩

theorem handedOver_clear (h : heldBursts s m = []) : heldBursts (s.handedOver e m) m = [] := by
  rw [heldBursts_congr (handedOver_frame s e m).2.2.1]
  exact h

/-- An unpaced issue starts the first unit (R66, R74). -/
theorem issue_unpaced_starts (hl : e.line = none) :
    ((s.issue e m).mover m).state = .run ∧ (s.issue e m).lines = s.lines
      ∧ (heldBursts s m = [] → outstanding (s.issue e m) m = startPlan s e 0) := by
  have hmover := handedOver_mover s e m
  rw [issue_unpaced hl]
  refine ⟨?_, (startUnit_lines _ m).trans (handedOver_frame s e m).2.1, fun hclear => ?_⟩
  · rw [(startUnit_mover _ m).2, hmover]
    simp [Mover.take, hl]
  · rw [startUnit_outstanding (t := e) (by rw [hmover]; rfl) (handedOver_clear hclear) (by rw [hmover]; rfl), hmover]
    exact startPlan_handedOver s e m

variable {n : LineIndex} (hl : e.line = some n)

include hl

theorem issue_paced_state :
    ((s.issue e m).mover m).state = if (s.line n).request then .run else .pace := by
  rw [issue_paced hl, (bind_mover _ n m).2, line_congr (handedOver_frame s e m).2.1]

/-- A paced issue binds its line and leaves the others (R101). -/
theorem issue_paced_lines :
    (∀ k, k ≠ n → (s.issue e m).line k = s.line k)
      ∧ (s.issue e m).line n =
        if (s.line n).request then ((s.line n).bindTo m).admitting else ((s.line n).bindTo m).loadTimer.inState .wait := by
  have hlines := (handedOver_frame s e m).2.1
  have hline : ((s.handedOver e m).mover m).transfer.bind Entry.line = some n := by
    rw [handedOver_mover]
    exact hl
  rw [issue_paced hl]
  refine ⟨fun k hk => ?_, ?_⟩
  · rw [(bind_work _ m hline).line k (by rw [hline]; exact fun h => hk (Option.some.inj h).symm), line_congr hlines]
  · rw [bind_line, line_congr hlines]

/-- A paced issue requests its first unit where the line admits it, and else nothing (R101, R102). -/
theorem issue_paced_outstanding (hclear : heldBursts s m = []) :
    outstanding (s.issue e m) m = if (s.line n).request then startPlan s e 0 else [] := by
  obtain ⟨-, hlines, -, -⟩ := handedOver_frame s e m
  have hmover := handedOver_mover s e m
  have hheld := handedOver_clear (e := e) hclear
  rw [issue_paced hl, State.bind, line_congr hlines]
  split
  · have hstart := admitBurst_outstanding (s := (s.handedOver e m).setLine n ((s.line n).bindTo m)) (t := e) n
      (congrArg Mover.transfer hmover) hheld (congrArg Mover.request hmover)
    rw [setLine_mover, hmover] at hstart
    exact hstart.trans (startPlan_handedOver s e m)
  · have hpace := waitIn_mover ((s.handedOver e m).setLine n ((s.line n).bindTo m).loadTimer) n m .wait
    rw [setLine_mover, hmover] at hpace
    rw [outstanding_eq, hpace, heldBursts_congr ((waitIn_grant ..).trans (setLine_grant ..)), hheld]
    rfl

end Issue

/-- Settles O19: the decision by its three conditions, and the hand-over followed by the first unit or the binding. -/
theorem issueToLowestIdleMover : Obligations.IssueToLowestIdleMover := by
  intro s e q m hq hc hk hempty u
  obtain ⟨hsurfaces, hrecords, hdispatcher, hcauses⟩ := issue_blocks (s := s) (e := e) (m := m)
  obtain ⟨_, _, _, _, _, _, hcounts⟩ := issue_mover s e m
  have htail : s.queue.tail = q := by rw [hq, List.tail_cons]
  refine ⟨?decision, ⟨(issue_frame s m e).1.trans htail, issue_transfer s m e, ?_, ?_, ?_, ?_, ?_,
    fun k hk => issue_others s e hk, hsurfaces, hrecords, hdispatcher, fun k => ?causes⟩, fun hl => ?unpaced, fun n hl => ?paced⟩
  case decision =>
    rw [decision_issue_iff hc hk hempty]
    exact and_congr_left fun _ => forall₂_congr fun t _ => apart_iff e t
  case causes =>
    rw [hcauses, removeHead_causeSet, htail]
  case unpaced =>
    obtain ⟨hstate, hlines, hout⟩ := issue_unpaced_starts (s := s) (m := m) hl
    exact ⟨hstate, hlines, fun hfree => hout (heldBursts_none hfree)⟩
  case paced =>
    obtain ⟨hothers, hline⟩ := issue_paced_lines (s := s) (m := m) hl
    have hstate := issue_paced_state (s := s) (m := m) hl
    have hout (hfree) := issue_paced_outstanding (s := s) (m := m) hl (heldBursts_none hfree)
    refine ⟨hothers, fun hrequest => ?_, fun hrequest => ?_⟩
    · simp only [hrequest, if_true] at hline hstate hout
      exact ⟨hstate, by rw [State.packActive, hline]; rfl, hline, hout⟩
    · simp only [hrequest, Bool.false_eq_true, if_false] at hline hstate hout
      exact ⟨hstate, by rw [State.packActive, hline]; rfl, hline, hout⟩
  all_goals
    show _ = _
    rw [hcounts]
    rfl

end Sys2Proof.Machine
end

section
/-! A transfer that ends where the dispatcher has nothing to take: its record is posted, or its mover waits in POST (R92 to R94,
R121). -/

namespace Sys2Proof.Machine

open Sys2Proof.Safety

/-! ### The posters of an event -/

theorem serveMover_of_not_postable {s : State} {m : MoverIndex} (h : ¬ Postable s m) : s.serveMover m = s := by
  rcases serveMover_cases s m with ⟨heq, -⟩ | ⟨hpost, -⟩
  · exact heq
  · exact absurd hpost h

theorem serveMover_others (s : State) {m k : MoverIndex} (hk : k ≠ m) : (s.serveMover m).mover k = s.mover k := by
  rcases serveMover_cases s m with ⟨h, -⟩ | ⟨-, _, _, _, _, _, -, -, h⟩ <;> rw [h]
  exact setMover_mover_ne s hk _

/-- Where no mover can post, the event goes on to the head (R121). -/
theorem settle_of_not_postable {s : State} (h : ∀ m, ¬ Postable s m) : s.settle = s.examine := by
  rw [State.settle, serveMover_of_not_postable (h 0), serveMover_of_not_postable (h 1)]

/-- Where one mover alone is in POST, the order of the movers does not matter (R121). -/
theorem settle_of_one {s : State} {m : MoverIndex} (h : ∀ k, k ≠ m → (s.mover k).state ≠ .post) :
    s.settle = (s.serveMover m).examine := by
  have hother {u : State} {k : MoverIndex} (hk : k ≠ m) (hu : u.mover k = s.mover k) : u.serveMover k = u :=
    serveMover_of_not_postable fun ⟨hpost, _⟩ => h k hk (hu ▸ hpost)
  unfold State.settle
  fin_cases m
  · exact congrArg State.examine (hother (k := 1) (by decide) (serveMover_others s (by decide)))
  · exact congrArg (fun u : State => (u.serveMover 1).examine) (hother (k := 0) (by decide) rfl)

/-- In HALT, and with an empty queue, an examination takes nothing (R57, R69). -/
theorem examine_quiet {s : State} (h : s.dispatcher.halted = true ∨ s.queue = []) :
    ∃ d, s.examine = { s with dispatcher := d } := by
  cases hd : s.dispatcher.halted with
  | true => exact ⟨s.dispatcher, examine_halted hd⟩
  | false => exact ⟨_, examineHead_empty _ hd (h.resolve_left (by simp [hd]))⟩

/-! ### The end of a transfer -/

/-- The end of a transfer changes movers and lines alone; its record, its references and the causes come with the posting (R92). -/
theorem finish_blocks (s : State) (m : MoverIndex) (o : Outcome) (f : Option FaultItem) :
    (s.finish m o f).surfaces = s.surfaces ∧ (s.finish m o f).freedSet = s.freedSet
      ∧ (∀ k, (s.finish m o f).causeSet k = s.causeSet k)
      ∧ (s.finish m o f).completionThreshold = s.completionThreshold := by
  unfold State.finish
  dsimp only
  split <;> exact ⟨rfl, rfl, fun _ => rfl, rfl⟩

/-- The end of a transfer releases its line and no other (R113). -/
theorem finish_lineReleased {s : State} {m : MoverIndex} {t : Entry} (ht : (s.mover m).transfer = some t) (o : Outcome)
    (f : Option FaultItem) : LineReleased s (s.finish m o f) t.line := by
  intro n
  unfold State.finish
  dsimp only
  rw [ht, Option.bind_some]
  cases hl : t.line with
  | none => exact (if_neg nofun).symm
  | some k =>
    by_cases hn : k = n
    · subst hn
      rw [if_pos rfl]
      exact setLine_line _ k _
    · rw [if_neg fun h => hn (Option.some.inj h)]
      exact setLine_line_ne _ (Ne.symm hn) _

/-- The record posted, the mover IDLE, and the references returned (R94). -/
def State.posted (s : State) (m : MoverIndex) (t : Entry) (o : Outcome) : State :=
  ((s.appendRecord (moverRecord m (s.mover m) t o)).setMover m Mover.idle).returnRefs t

theorem serveMover_posted {s : State} {m : MoverIndex} {t : Entry} {o : Outcome} (hstate : (s.mover m).state = .post)
    (ht : (s.mover m).transfer = some t) (ho : (s.mover m).outcome = some o) (hroom : s.completions.length < 32) :
    s.serveMover m = s.posted m t o := by
  unfold State.serveMover
  dsimp only
  rw [ht, ho]
  exact if_pos ⟨hstate, (hasSlot_iff s).mpr hroom⟩

theorem returnRefs_causeSet_ne (s : State) (e : Entry) {k : Cause} (h : (k == .freed) = false) :
    (s.returnRefs e).causeSet k = s.causeSet k := by
  rw [State.returnRefs, foldl_returnRef_causeSet, h, Bool.false_and, Bool.or_false]

section Posted

variable (s : State) (m : MoverIndex) (t : Entry) (o : Outcome)

theorem posted_frame :
    (s.posted m t o).completions = s.completions ++ [{ moverRecord m (s.mover m) t o with sequence := s.sequence }]
      ∧ (s.posted m t o).sequence = s.sequence + 1 ∧ (s.posted m t o).mover m = Mover.idle
      ∧ (s.posted m t o).queue = s.queue ∧ (s.posted m t o).lines = s.lines
      ∧ (s.posted m t o).dispatcher = s.dispatcher ∧ (s.posted m t o).grant = s.grant := by
  obtain ⟨_, hr⟩ := appendRecord_only s (moverRecord m (s.mover m) t o)
  obtain ⟨_, _, _, hrefs⟩ := returnRefs_refsOnly
    ((s.appendRecord (moverRecord m (s.mover m) t o)).setMover m Mover.idle) t
  unfold State.posted
  rw [hrefs, hr]
  exact ⟨rfl, rfl, setMover_mover s m _, rfl, rfl, rfl, rfl⟩

theorem posted_returnsRefs : ReturnsRefs s (s.posted m t o) t.surfaces := by
  obtain ⟨_, hr⟩ := appendRecord_only s (moverRecord m (s.mover m) t o)
  refine returnRefs_congr (t := (s.appendRecord (moverRecord m (s.mover m) t o)).setMover m Mover.idle) ?_ ?_
    (appendRecord_freed s _) (returnRefs_returnsRefs _ t)
  · rw [hr]
    rfl
  · rw [hr]
    rfl

/-- COMPLETION by its threshold, and SIGNAL by the record (R128, R129). -/
theorem posted_causeSet {k : Cause} (hk : (k == .freed) = false) :
    (s.posted m t o).causeSet k =
      (s.causeSet k || (k == .completion && decide (s.completionThreshold ≤ s.completions.length + 1))
        || (k == .signal && t.signal)) :=
  (returnRefs_causeSet_ne _ t hk).trans (appendRecord_causeSet s _ k)

end Posted

section Ends

variable {s : State} {m : MoverIndex} {t : Entry} (o : Outcome) (f : Option FaultItem)

theorem endTransfer_hostSide : HostSideKept s (s.endTransfer m o f) :=
  hostSide_of_engine (endTransfer_engineOnly s m o f) ((settings_steps s).event.endTransfer o f False.elim (.refl s))

variable (ht : (s.mover m).transfer = some t) (hquiet : s.dispatcher.halted = true ∨ s.queue = [])

include ht hquiet

/-- With a free slot the record is posted in the event of the end (R94, R121). -/
theorem endTransfer_posts (hroom : s.completions.length < 32) (hothers : ∀ k, k ≠ m → (s.mover k).state ≠ .post) :
    Safety.EndsWith s (s.endTransfer m o f) m t o (s.mover m).moved (s.mover m).skipped f
      ∧ (s.endTransfer m o f).grant = s.grant := by
  have hhost := endTransfer_hostSide (s := s) (m := m) o f
  have hmover := finish_mover s m o f
  have hlines := finish_lineReleased ht o f
  have hfinish_grant := finish_grant s m o f
  have hfinish_dispatcher := finish_dispatcher s m o f
  obtain ⟨hfinish_queue, hfinish_records, hfinish_sequence, -⟩ := finish_frame s m o f
  obtain ⟨hsurfaces, hfreed, hfinish_causes, hthreshold⟩ := finish_blocks s m o f
  have hleft (k : MoverIndex) (hk : k ≠ m) : ((s.finish m o f).mover k).state ≠ .post := by
    rw [(finish_work s m o f).others k hk]
    exact hothers k hk
  unfold State.endTransfer at hhost ⊢
  rw [settle_of_one hleft] at hhost ⊢
  generalize s.finish m o f = u at *
  have hposted : u.serveMover m = u.posted m t o :=
    serveMover_posted (by rw [hmover]; rfl) (by rw [hmover]; exact ht) (by rw [hmover]; rfl) (by rwa [hfinish_records])
  obtain ⟨hrecords, hsequence, hidle, hqueue, hposted_lines, hdispatcher, hgrant⟩ := posted_frame u m t o
  obtain ⟨d, hexamine⟩ := examine_quiet (s := u.posted m t o) (by
    rw [hdispatcher, hqueue, hfinish_dispatcher, hfinish_queue]
    exact hquiet)
  have hcause {k : Cause} (hk : (k == .freed) = false) := posted_causeSet u m t o hk
  rw [hmover, hfinish_records, hfinish_sequence] at hrecords
  simp only [hfinish_causes, hthreshold, hfinish_records] at hcause
  rw [hposted, hexamine] at hhost ⊢
  refine ⟨⟨hrecords, hsequence.trans (congrArg (· + 1) hfinish_sequence), hidle, hqueue.trans hfinish_queue,
    fun n => (line_congr hposted_lines n).trans (hlines n),
    returnRefs_congr hsurfaces hfreed (hfinish_causes _) (posted_returnsRefs u m t o), ?_, ?_, hhost⟩, hgrant.trans hfinish_grant⟩
  · refine (hcause (k := .completion) rfl).trans ?_
    simp
  · have hother : (Cause.signal == Cause.completion) = false := rfl
    refine (hcause (k := .signal) rfl).trans ?_
    simp [hother]

/-- At a full completion queue the mover waits in POST (R93, R122). -/
theorem endTransfer_waits (hfull : 32 ≤ s.completions.length) :
    WaitsInPost s (s.endTransfer m o f) m t o (s.mover m).moved (s.mover m).skipped f
      ∧ (s.endTransfer m o f).grant = s.grant := by
  have hhost := endTransfer_hostSide (s := s) (m := m) o f
  have hmover := finish_mover s m o f
  have hothers := (finish_work s m o f).others
  have hlines := finish_lineReleased ht o f
  have hgrant := finish_grant s m o f
  have hdispatcher := finish_dispatcher s m o f
  obtain ⟨hqueue, hrecords, hsequence, -⟩ := finish_frame s m o f
  obtain ⟨hsurfaces, hfreed, hcauses, -⟩ := finish_blocks s m o f
  have hnoslot (k : MoverIndex) : ¬ Postable (s.finish m o f) k := fun ⟨_, _, _, hslot⟩ => by
    rw [hasSlot_iff, hrecords] at hslot
    exact absurd hslot (Nat.not_lt.mpr hfull)
  obtain ⟨d, hexamine⟩ := examine_quiet (s := s.finish m o f) (by
    rw [hdispatcher, hqueue]
    exact hquiet)
  unfold State.endTransfer at hhost ⊢
  rw [settle_of_not_postable hnoslot, hexamine] at hhost ⊢
  generalize s.finish m o f = u at *
  have item {α : Type} (g : Mover → α) : g (State.mover { u with dispatcher := d } m) = g ((s.mover m).ended o f) :=
    congrArg g hmover
  exact ⟨⟨item Mover.state, (item Mover.transfer).trans ht, item Mover.outcome, item Mover.moved, item Mover.skipped,
    item Mover.fault, item Mover.bursts,
    fun k hk => ⟨congrArg Mover.state (hothers k hk), congrArg Mover.transfer (hothers k hk)⟩,
    hrecords, hsequence, hqueue, hsurfaces, hfreed, hlines, fun k _ => hcauses k, hhost⟩, hgrant⟩

/-- A transfer that ends posts its record or waits in POST, and requests no burst (R92, R121). -/
theorem endTransfer_ends (hothers : s.completions.length < 32 → ∀ k, k ≠ m → (s.mover k).state ≠ .post) :
    Ends s (s.endTransfer m o f) m t o (s.mover m).moved (s.mover m).skipped f
      ∧ (s.endTransfer m o f).grant = s.grant := by
  refine ⟨⟨fun hroom => (endTransfer_posts o f ht hquiet hroom (hothers hroom)).1,
    fun hfull => (endTransfer_waits o f ht hquiet hfull).1⟩, ?_⟩
  rcases Nat.lt_or_ge s.completions.length 32 with hroom | hfull
  · exact (endTransfer_posts o f ht hquiet hroom (hothers hroom)).2
  · exact (endTransfer_waits o f ht hquiet hfull).2

end Ends

/-- A control command that ends a transfer leaves its result beside the end (R167). -/
theorem ends_result {s u : State} {m : MoverIndex} {t : Entry} {o : Outcome} {moved skipped : Nat} {f : Option FaultItem}
    (h : Ends s u m t o moved skipped f) (c : ResultCode) (v : Nat) :
    Ends (s.result c v) (u.result c v) m t o moved skipped f := by
  have host (hhost : HostSideKept s u) : HostSideKept (s.result c v) (u.result c v) := by
    obtain ⟨h1, h2, h3, h4, h5, h6, -, h8⟩ := hhost
    exact ⟨h1, h2, h3, h4, h5, h6, rfl, h8⟩
  obtain ⟨hposts, hwaits⟩ := h
  refine ⟨fun hroom => ?_, fun hfull => ?_⟩
  · obtain ⟨hrecords, hsequence, hidle, hqueue, hline, hrefs, hcompletion, hsignal, hhost⟩ := hposts hroom
    exact ⟨hrecords, hsequence, hidle, hqueue, hline, hrefs, hcompletion, hsignal, host hhost⟩
  · obtain ⟨h1, h2, h3, h4, h5, h6, h7, h8, h9, h10, h11, h12, h13, hline, hcauses, hhost⟩ := hwaits hfull
    exact ⟨h1, h2, h3, h4, h5, h6, h7, h8, h9, h10, h11, h12, h13, hline, hcauses, host hhost⟩

end Sys2Proof.Machine
end

section
/-! ABORT_TAG (O34): its marks and stop requests, and the postings and the examination that they cause. -/

namespace Sys2Proof.Machine

open Sys2Proof.Safety

/-! ### Marks -/

/-- A mark leaves all that a record or a return of references takes from an entry (R48). -/
theorem mark_surfaces (tag : Tag) (e : Entry) : (Entry.mark tag e).surfaces = e.surfaces := by
  unfold Entry.mark
  split <;> rfl

theorem mark_record (tag : Tag) (e : Entry) (o : Outcome) : dispatcherRecord (Entry.mark tag e) o = dispatcherRecord e o := by
  unfold Entry.mark
  split <;> rfl

/-- The queue with the marks of an ABORT_TAG (R150). -/
def State.cancelling (s : State) (tag : Tag) : State :=
  { s with queue := s.queue.map (Entry.mark tag) }

/-! ### Stop requests -/

theorem hit_iff (mv : Mover) (tag : Tag) :
    mv.hit tag = true ↔ (mv.state = .run ∨ mv.state = .pace) ∧ ∃ t, mv.transfer = some t ∧ t.tag = tag := by
  simp [Mover.hit, Option.any_eq_true]

theorem transfersHit_eq (s : State) (tag : Tag) :
    s.transfersHit tag = ((s.mover 0).hit tag).toNat + ((s.mover 1).hit tag).toNat := by
  unfold State.transfersHit
  cases h0 : (s.mover 0).hit tag <;> cases h1 : (s.mover 1).hit tag <;> simp [h0, h1]

theorem transfersHit_pos {s : State} {tag : Tag} {m : MoverIndex} (h : (s.mover m).hit tag = true) :
    0 < s.transfersHit tag :=
  List.countP_pos_iff.mpr ⟨m, by fin_cases m <;> simp, h⟩

section Stop

variable {s : State} {tag : Tag} {m : MoverIndex} {t : Entry} (ht : (s.mover m).transfer = some t) (htag : t.tag = tag)

include ht htag

/-- A transfer in RUN that carries the tag takes the stop request (R89). -/
theorem stopMover_of_run (hstate : (s.mover m).state = .run) : s.stopMover tag m = s.setMover m (s.mover m).stopping := by
  unfold State.stopMover
  dsimp only
  rw [ht]
  dsimp only
  rw [if_pos htag, hstate]

/-- A transfer in PACE that carries the tag ends at once (R111). -/
theorem stopMover_of_pace (hstate : (s.mover m).state = .pace) : s.stopMover tag m = s.finish m .aborted none := by
  unfold State.stopMover
  dsimp only
  rw [ht]
  dsimp only
  rw [if_pos htag, hstate]

end Stop

/-- The movers with the stop requests of an ABORT_TAG that finds no transfer in PACE (R89, R151). -/
def State.stops (s : State) (tag : Tag) : Vector Mover 2 :=
  Vector.ofFn fun m => if (s.mover m).hit tag then (s.mover m).stopping else s.mover m

/-- The state after every mark and every stop request, before the postings that they cause (R149). -/
def State.reached (s : State) (tag : Tag) : State :=
  ((s.cancelling tag).stopMover tag 0).stopMover tag 1

/-- The state after the marks and the stop requests of such an ABORT_TAG. -/
def State.stopRequested (s : State) (tag : Tag) : State :=
  { s.cancelling tag with movers := s.stops tag }

theorem setMover_self (s : State) (m : MoverIndex) : s.setMover m (s.mover m) = s :=
  congrArg (fun v => { s with movers := v }) (Vector.set_getElem_self ..)

/-- With its hit transfers in RUN an ABORT_TAG marks, and requests stops, and does no more (R89, R150). -/
theorem reached_of_run {s : State} {tag : Tag} (hrun : ∀ m, (s.mover m).hit tag = true → (s.mover m).state = .run) :
    s.reached tag = s.stopRequested tag := by
  have hstop {u : State} {m : MoverIndex} (hu : u.mover m = s.mover m) :
      u.stopMover tag m = u.setMover m (if (s.mover m).hit tag then (s.mover m).stopping else s.mover m) := by
    rw [← hu]
    split
    · rename_i hhit
      obtain ⟨-, t, ht, htag⟩ := (hit_iff _ tag).mp hhit
      exact stopMover_of_run ht htag (hu ▸ hrun m (hu ▸ hhit))
    · rename_i hmiss
      rw [setMover_self, stopMover_of_not_hit (by simpa using hmiss)]
  unfold State.reached
  rw [hstop (u := s.cancelling tag) (m := 0) rfl, hstop (m := 1) (setMover_mover_ne (s.cancelling tag) (by decide) _)]
  refine congrArg (fun v => { s.cancelling tag with movers := v }) (Vector.ext fun i hi => ?_)
  unfold State.stops
  rw [Vector.getElem_ofFn]
  match i, hi with
  | 0, _ => simp [State.setMover, State.cancelling]
  | 1, _ => simp [State.setMover, State.cancelling]

theorem stopMover_others (s : State) (tag : Tag) {m k : MoverIndex} (hk : k ≠ m) :
    (s.stopMover tag m).mover k = s.mover k := by
  unfold State.stopMover
  dsimp only
  split
  · rfl
  · split
    · split
      · exact setMover_mover_ne s hk _
      · exact (finish_work s m _ _).others k hk
      · rfl
      · rfl
    · rfl

/-- With the other mover not hit, an ABORT_TAG works on one alone. -/
theorem reached_of_one {s : State} {tag : Tag} {m : MoverIndex} (h : ∀ k, k ≠ m → (s.mover k).hit tag = false) :
    s.reached tag = (s.cancelling tag).stopMover tag m := by
  have hmiss {u : State} {k : MoverIndex} (hk : k ≠ m) (hu : u.mover k = s.mover k) : u.stopMover tag k = u :=
    stopMover_of_not_hit (hu ▸ h k hk)
  unfold State.reached
  fin_cases m
  · exact hmiss (k := 1) (by decide) (stopMover_others (s.cancelling tag) tag (by decide))
  · exact congrArg (State.stopMover · tag 1) (hmiss (u := s.cancelling tag) (k := 0) (by decide) rfl)

theorem stopRequested_mover (s : State) (tag : Tag) (m : MoverIndex) :
    (s.stopRequested tag).mover m =
      if (s.mover m).hit tag then (s.mover m).stopping else s.mover m :=
  Vector.getElem_ofFn ..

/-- A stop request leaves the state and the transfer of its mover. -/
theorem stopRequested_state (s : State) (tag : Tag) (m : MoverIndex) :
    ((s.stopRequested tag).mover m).state = (s.mover m).state
      ∧ ((s.stopRequested tag).mover m).transfer = (s.mover m).transfer := by
  rw [stopRequested_mover]
  split <;> exact ⟨rfl, rfl⟩

theorem stopRequested_load (s : State) (tag : Tag) : SameLoad s (s.stopRequested tag) :=
  ⟨fun m => (stopRequested_state s tag m).2, fun m => by rw [(stopRequested_state s tag m).1]⟩

theorem stopRequested_head {s : State} (tag : Tag) {e : Entry} {q : List Entry} (hq : s.queue = e :: q) :
    (s.stopRequested tag).queue = Entry.mark tag e :: q.map (Entry.mark tag) :=
  congrArg (List.map (Entry.mark tag)) hq

theorem stopRequested_report {s : State} {tag : Tag} {e : Entry} {o : Outcome} (ho : reportOf s e = some o) :
    (s.stopRequested tag).decision e = .report o :=
  decision_of_report (((stopRequested_load s tag).reportOf e).trans ho)

/-! ### The examination of one head -/

section Head

variable {s : State} {e : Entry} {q : List Entry} (hd : s.dispatcher.halted = false) (hq : s.queue = e :: q)

include hd hq

theorem examine_hold {r : WaitReason} (h : s.decision e = .hold r) : s.examine = s.setWait r false := by
  unfold State.examine State.examineHead
  rw [if_neg (by simp [hd]), hq]
  dsimp only
  rw [h]

theorem examine_full {o : Outcome} (h : s.decision e = .report o) (hfull : 32 ≤ s.completions.length) :
    s.examine = s.setWait .space true := by
  have hslot : ¬ s.hasSlot = true := fun hslot => absurd ((hasSlot_iff s).mp hslot) (Nat.not_lt.mpr hfull)
  unfold State.examine State.examineHead
  rw [if_neg (by simp [hd]), hq]
  dsimp only
  rw [h]
  exact if_neg hslot

theorem examine_report {o : Outcome} (h : s.decision e = .report o) (hroom : s.completions.length < 32) :
    s.examine = State.examineHead s.queue.length (s.report e o) := by
  unfold State.examine
  rw [State.examineHead, if_neg (by simp [hd]), hq]
  dsimp only
  rw [h]
  exact if_pos ((hasSlot_iff s).mpr hroom)

end Head

/-- An examination appends records to those posted (R121). -/
theorem examineHead_appends (fuel : Nat) (s : State) :
    ∃ more, (State.examineHead fuel s).completions = s.completions ++ more := by
  refine examineHead_keeps (fun u => ∃ more, u.completions = s.completions ++ more) (fun u e _ o h _ _ _ _ => ?_)
    (fun u e _ m h _ _ _ => ?_) (fun _ _ _ h _ _ _ => h) fuel s ⟨[], (List.append_nil _).symm⟩
  · obtain ⟨more, hmore⟩ := h
    exact ⟨_, by rw [(report_frame u e o).2.1, hmore, List.append_assoc]⟩
  · rwa [issue_blocks.2.1]

/-! ### ABORT_TAG -/

/-- What an ABORT_TAG leaves beside the movers and what the postings change: the marks and its counts (R149, R150). -/
def State.aborted (s : State) (tag : Tag) : State :=
  (s.cancelling tag).result .ok (s.entriesMarked tag + 256 * s.transfersHit tag)

section Abort

variable {s : State} {tag : Tag}

theorem exec_abortTag (hreset : s.inReset = false) : exec (.abortTag tag) s = .next (s.abortByTag tag) :=
  congrArg _ (unlessReset_high hreset _)

theorem abortByTag_of_none (hmarked : s.entriesMarked tag = 0) (hhit : s.transfersHit tag = 0) :
    s.abortByTag tag = s.result .ok 0 := by
  unfold State.abortByTag
  dsimp only
  rw [abort_nothing hmarked hhit, hmarked, hhit]
  rfl

theorem abortByTag_of_found (hfound : 0 < s.entriesMarked tag + s.transfersHit tag) :
    s.abortByTag tag =
      (s.eitherOrder (s.reached tag).settle).result .ok (s.entriesMarked tag + 256 * s.transfersHit tag) := by
  unfold State.abortByTag
  dsimp only
  rw [if_neg (by omega)]
  rfl

theorem abortByTag_result : (s.abortByTag tag).controlResult = (s.aborted tag).controlResult := rfl

/-- The host's registers after ABORT_TAG: its result alone is new (R167). -/
theorem abortByTag_hostSide (hreset : s.inReset = false) : HostSideKept (s.aborted tag) (s.abortByTag tag) := by
  obtain ⟨-, -, hcontrol⟩ := hostSideChangesByHostAlone (.abortTag tag) s _ (exec_abortTag hreset)
  exact hcontrol (by simp)

/-- Where every poster waits only for a full completion queue, an ABORT_TAG that ends no transfer posts none (R121). -/
theorem stopRequested_settle (hserved : PostersServed s) :
    (s.stopRequested tag).settle = (s.stopRequested tag).examine := by
  refine settle_of_not_postable fun m ⟨hpost, _, _, hslot⟩ => ?_
  rw [(stopRequested_state s tag m).1] at hpost
  have hfull : s.completions.length = 32 := hserved.1 m hpost
  have hroom : s.completions.length < 32 := (hasSlot_iff _).mp hslot
  omega

variable (hserved : PostersServed s) (hrun : ∀ m, (s.mover m).hit tag = true → (s.mover m).state = .run)

include hserved hrun

/-- In HALT the marks and the stop requests are all (R69, R151). -/
theorem abortByTag_halted (hd : s.dispatcher.halted = true) :
    s.abortByTag tag = { s.aborted tag with movers := s.stops tag } := by
  have hsettle : (s.reached tag).settle = s.stopRequested tag := by
    rw [reached_of_run hrun, stopRequested_settle hserved]
    exact examine_halted hd
  rcases Nat.eq_zero_or_pos (s.entriesMarked tag + s.transfersHit tag) with hnone | hfound
  · obtain ⟨hmarked, hhit⟩ := Nat.add_eq_zero_iff.mp hnone
    have hsame : s = s.stopRequested tag := (abort_nothing hmarked hhit).symm.trans (reached_of_run hrun)
    rw [abortByTag_of_none hmarked hhit, State.aborted, hmarked, hhit]
    exact congrArg (State.result · .ok 0) hsame
  · rw [abortByTag_of_found hfound, hsettle, eitherOrder_of_sameGrant (s := s) (t := s.stopRequested tag) rfl]
    rfl

/-- In RUN the head is examined with the marks set (R57, R150). -/
theorem abortByTag_examines (hfound : 0 < s.entriesMarked tag + s.transfersHit tag) {u : State}
    (hu : (s.stopRequested tag).examine = u) :
    s.abortByTag tag = (s.eitherOrder u).result .ok (s.entriesMarked tag + 256 * s.transfersHit tag) := by
  rw [abortByTag_of_found hfound, reached_of_run hrun, stopRequested_settle hserved, hu]

theorem abortByTag_waits (hfound : 0 < s.entriesMarked tag + s.transfersHit tag) {r : WaitReason} {slot : Bool}
    (hu : (s.stopRequested tag).examine = (s.stopRequested tag).setWait r slot) :
    s.abortByTag tag =
      { s.aborted tag with
        movers := s.stops tag
        dispatcher := { s.dispatcher with waitReason := r, slotRequest := slot } } := by
  have hgrant : ((s.stopRequested tag).setWait r slot).grant = s.grant := rfl
  rw [abortByTag_examines hserved hrun hfound hu, eitherOrder_of_sameGrant hgrant]
  rfl

/-- A head to be reported is the first record of the event, and the only one where it was the only entry (R57, R59, R62). -/
theorem abortByTag_reports (hfound : 0 < s.entriesMarked tag + s.transfersHit tag) (hd : s.dispatcher.halted = false)
    {e : Entry} {q : List Entry} (hq : s.queue = e :: q) {o : Outcome} (ho : reportOf s (Entry.mark tag e) = some o)
    (hroom : s.completions.length < 32) :
    ∃ more, ReportsFirst s (s.abortByTag tag) e o more
      ∧ (q = [] →
          more = [] ∧ (s.abortByTag tag).queue = [] ∧ (s.abortByTag tag).movers = s.stops tag
          ∧ (s.abortByTag tag).lines = s.lines ∧ (s.abortByTag tag).sequence = s.sequence + 1
          ∧ (s.abortByTag tag).dispatcher = { s.dispatcher with waitReason := .none, slotRequest := false }
          ∧ ReturnsRefs s (s.abortByTag tag) e.surfaces) := by
  have hhead := stopRequested_head tag hq
  obtain ⟨hqueue, hrecords, hsequence, hmovers, hlines, hdispatcher⟩ :=
    report_frame (s.stopRequested tag) (Entry.mark tag e) o
  have hrefs := report_returnsRefs (s.stopRequested tag) (Entry.mark tag e) o
  rw [mark_surfaces] at hrefs
  rw [mark_record] at hrecords
  have habort := abortByTag_examines hserved hrun hfound
    (examine_report (s := s.stopRequested tag) hd hhead (stopRequested_report ho) hroom)
  have hfirst : ∃ more, ReportsFirst s (s.abortByTag tag) e o more := by
    obtain ⟨more, hmore⟩ := examineHead_appends (s.stopRequested tag).queue.length
      ((s.stopRequested tag).report (Entry.mark tag e) o)
    rw [hrecords, List.append_assoc] at hmore
    rw [habort]
    exact ⟨more, (eitherOrder_calm (w := False) s _).completions.trans hmore⟩
  obtain ⟨more, hmore⟩ := hfirst
  refine ⟨more, hmore, fun hlast => ?_⟩
  subst hlast
  have hsingle : State.examineHead (s.stopRequested tag).queue.length ((s.stopRequested tag).report (Entry.mark tag e) o) =
      ((s.stopRequested tag).report (Entry.mark tag e) o).setWait .none false := by
    rw [hhead]
    exact examineHead_empty 0 (hdispatcher ▸ hd) (hqueue.trans (congrArg List.tail hhead))
  have hgrant : (((s.stopRequested tag).report (Entry.mark tag e) o).setWait .none false).grant = s.grant := by
    obtain ⟨_, _, _, hreport⟩ := report_only (s.stopRequested tag) (Entry.mark tag e) o
    rw [hreport]
    rfl
  rw [hsingle, eitherOrder_of_sameGrant hgrant] at habort
  rw [habort] at hmore ⊢
  refine ⟨?_, hqueue.trans (congrArg List.tail hhead), hmovers, hlines, hsequence, ?_, hrefs⟩
  · have hone := List.append_cancel_left (hrecords.symm.trans hmore)
    exact (List.cons.inj hone).2.symm
  · rw [State.result, State.setWait, hdispatcher]
    rfl

end Abort

/-- A transfer in PACE that carries the tag, with the other mover not hit, ends in the event (R111). -/
theorem abortByTag_ends {s : State} {tag : Tag} {m : MoverIndex} {t : Entry} (hquiet : QuietEnd s m)
    (hpace : (s.mover m).state = .pace) (ht : (s.mover m).transfer = some t) (htag : t.tag = tag)
    (hothers : ∀ k, k ≠ m → (s.mover k).hit tag = false) :
    Ends (s.aborted tag) (s.abortByTag tag) m t .aborted (s.mover m).moved (s.mover m).skipped none := by
  obtain ⟨-, htake, hpost⟩ := hquiet
  have hhit : (s.mover m).hit tag = true := (hit_iff _ tag).mpr ⟨.inr hpace, t, ht, htag⟩
  have hreached : s.reached tag = (s.cancelling tag).finish m .aborted none :=
    (reached_of_one hothers).trans (stopMover_of_pace ht htag hpace)
  obtain ⟨hends, hgrant⟩ := endTransfer_ends (s := s.cancelling tag) (m := m) .aborted none ht
    (htake.imp_right List.map_eq_nil_iff.mpr) hpost
  have hsettle : (s.reached tag).settle = (s.cancelling tag).endTransfer m .aborted none := congrArg State.settle hreached
  rw [abortByTag_of_found (Nat.add_pos_right _ (transfersHit_pos hhit)), hsettle, eitherOrder_of_sameGrant (s := s) hgrant]
  exact ends_result hends _ _

/-- Settles O34: the marks and the stop requests, followed by the examination of the head or the end of the transfer in PACE. -/
theorem abortTagReachesAll : Obligations.AbortTagReachesAll := by
  intro s tag hreset carries hit marked stopped after stops
  have hmarked : marked = s.entriesMarked tag := rfl
  have hstopped : stopped = s.transfersHit tag := (transfersHit_eq s tag).symm
  have hstops : stops = s.stops tag := rfl
  have hafter : after = s.aborted tag := by
    show State.result (s.cancelling tag) .ok (marked + 256 * stopped) = _
    rw [hmarked, hstopped]
    rfl
  rw [exec_abortTag hreset, hafter, hstops, hmarked, hstopped]
  refine ⟨⟨_, rfl, abortByTag_result⟩, fun hnone hmiss => ?_, fun hd hserved hrun => ?_, fun hd hserved hfound hrun => ?_,
    fun m t hquiet hpace ht htag hothers => ⟨_, rfl, abortByTag_ends hquiet hpace ht htag hothers⟩⟩
  · rw [abortByTag_of_none hnone hmiss]
    rfl
  · rw [abortByTag_halted hserved hrun hd]
  · refine ⟨fun hq => congrArg _ (abortByTag_waits hserved hrun hfound ?_), fun e q hq =>
      ⟨fun r hr => congrArg _ (abortByTag_waits hserved hrun hfound ?_), fun o ho =>
        ⟨fun hfull => congrArg _ (abortByTag_waits hserved hrun hfound ?_), fun hroom => ?_⟩⟩⟩
    · exact examineHead_empty _ hd (List.map_eq_nil_iff.mpr hq)
    · exact examine_hold (s := s.stopRequested tag) hd (stopRequested_head tag hq)
        (decision_of_hold (((stopRequested_load s tag).holdOf _).trans hr))
    · exact examine_full (s := s.stopRequested tag) hd (stopRequested_head tag hq) (stopRequested_report ho) hfull
    · obtain ⟨more, hfirst, hlast⟩ := abortByTag_reports hserved hrun hfound hd hq ho hroom
      exact ⟨_, more, rfl, hfirst, abortByTag_hostSide hreset, hlast⟩

end Sys2Proof.Machine
end

section
/-! The units of a transfer tile its effective rectangle (O26): O27's places of a unit's elements, read backwards. Every place of
the rectangle's order falls to one unit, and the element there is one of that unit's. -/

namespace Sys2Proof.Machine

open Sys2Proof.Safety

/-! ### From the place to the element -/

/-- An element of the rectangle by its place: its row is the quotient by the row length, its column the remainder. -/
theorem element_of_rank {size p : Triple} (hbox : InBox size p) {row x : Nat} (hx : x < size.x)
    (h : rank size p = row * size.x + x) : p.x = x ∧ p.y = row % size.y ∧ p.z = row / size.y := by
  obtain ⟨hpx, hpy, -⟩ := hbox
  have hsx : 0 < size.x := Nat.zero_lt_of_lt hx
  have hrow : p.z * size.y + p.y = row := by
    have hdiv := congrArg (· / size.x) h
    simpa only [rank, Nat.mul_comm _ size.x, Nat.mul_add_div hsx, Nat.div_eq_of_lt hpx, Nat.div_eq_of_lt hx, Nat.add_zero]
      using hdiv
  have hcolumn : p.x = x := by
    rw [rank, hrow] at h
    omega
  subst hrow
  refine ⟨hcolumn, ?_, ?_⟩
  · rw [Nat.mul_comm, Nat.mul_add_mod, Nat.mod_eq_of_lt hpy]
  · rw [Nat.mul_comm, Nat.mul_add_div (Nat.zero_lt_of_lt hpy), Nat.div_eq_of_lt hpy, Nat.add_zero]

/-- The rows of the rectangle: those before row `r` of the descending order, that row, and the rest. -/
theorem effective_rows (e : Entry) {r : Nat} (hr : r < e.size.y * e.size.z) :
    e.effective = (e.size.y * e.size.z - 1 - r) * e.size.x + e.size.x + r * e.size.x := by
  rw [← Nat.add_one_mul, ← Nat.add_mul, Entry.effective, Nat.mul_assoc, Nat.mul_comm]
  congr 1
  omega

/-- An element that stands at a place of a segment is one of the segment's: the other direction of `segment_rank`. -/
theorem segment_covers (e : Entry) {full k : Nat} (hfull : 0 < full)
    (hk : k < ceilDiv e.size.x full * (e.size.y * e.size.z)) {p : Triple} (hbox : InBox e.size p)
    (hasc : e.descending = false → segmentStart e full k ≤ rank e.size p ∧ rank e.size p < segmentStart e full (k + 1))
    (hdesc : e.descending = true →
      e.effective - segmentStart e full (k + 1) ≤ rank e.size p ∧ rank e.size p < e.effective - segmentStart e full k) :
    InRun (segmentRun e full k) p := by
  have hx : 0 < e.size.x := Nat.zero_lt_of_lt hbox.1
  have hrow : k / ceilDiv e.size.x full < e.size.y * e.size.z := Nat.div_lt_of_lt_mul hk
  obtain ⟨hlength, hfits⟩ := segment_fits e hfull hx k
  rw [segmentStart_succ e hfull hx, segmentStart] at hasc hdesc
  cases hd : e.descending with
  | false =>
    obtain ⟨hlow, hhigh⟩ := hasc hd
    obtain ⟨hpx, hpy, hpz⟩ := element_of_rank hbox (row := k / ceilDiv e.size.x full)
      (x := rank e.size p - k / ceilDiv e.size.x full * e.size.x) (by omega) (by omega)
    simp only [segmentRun, hd, Bool.false_eq_true, if_false] at hlength hfits hhigh ⊢
    exact ⟨hpy, hpz, by dsimp only; omega, by dsimp only; omega⟩
  | true =>
    obtain ⟨hlow, hhigh⟩ := hdesc hd
    rw [effective_rows e hrow] at hlow hhigh
    obtain ⟨hpx, hpy, hpz⟩ := element_of_rank hbox (row := e.size.y * e.size.z - 1 - k / ceilDiv e.size.x full)
      (x := rank e.size p - (e.size.y * e.size.z - 1 - k / ceilDiv e.size.x full) * e.size.x) (by omega) (by omega)
    simp only [segmentRun, hd, if_true] at hlength hfits hlow ⊢
    exact ⟨hpy, hpz, by dsimp only; omega, by dsimp only; omega⟩

/-- An element at one of the `n` places from `i` on is in one of the runs of those places (R82). -/
theorem burstRuns_covers (e : Entry) {p : Triple} (hbox : InBox e.size p) :
    ∀ (fuel i n : Nat), n ≤ fuel → i ≤ rank e.size p → rank e.size p < i + n →
      ∃ r ∈ burstRuns e fuel i n, InRun r p
  | 0, i, n, hn, hlow, hhigh => absurd hhigh (by omega)
  | fuel + 1, i, n, hn, hlow, hhigh => by
    have hcolumn := Nat.mod_lt i (Nat.zero_lt_of_lt hbox.1)
    have hplace := Nat.div_add_mod' i e.size.x
    unfold burstRuns
    rw [if_neg (by omega)]
    by_cases hfirst : rank e.size p < i + min n (e.size.x - i % e.size.x)
    · obtain ⟨hpx, hpy, hpz⟩ := element_of_rank hbox (row := i / e.size.x) (x := rank e.size p - i / e.size.x * e.size.x)
        (by omega) (by omega)
      rw [Nat.div_div_eq_div_mul] at hpz
      exact ⟨_, List.mem_cons_self .., hpy, hpz, by dsimp only; omega, by dsimp only; omega⟩
    · obtain ⟨r, hr, hin⟩ := burstRuns_covers e hbox fuel (i + min n (e.size.x - i % e.size.x))
        (n - min n (e.size.x - i % e.size.x)) (by omega) (by omega) (by omega)
      exact ⟨r, List.mem_cons_of_mem _ hr, hin⟩

/-! ### Every element has a unit -/

section Covers

variable {s : State} {e : Entry}

/-- An element at a place of a unit is one of the unit's: the other direction of `unit_rank`. -/
theorem unit_covers (h : UnitsFit s e) {k : Nat} (hk : k < s.unitCount e) {p : Triple} (hbox : InBox e.size p)
    (hasc : e.descending = false ∨ s.portSurface e ≠ none →
      elementsBefore s e k ≤ rank e.size p ∧ rank e.size p < elementsBefore s e (k + 1))
    (hdesc : e.descending = true → s.portSurface e = none →
      e.effective - elementsBefore s e (k + 1) ≤ rank e.size p ∧ rank e.size p < e.effective - elementsBefore s e k) :
    ∃ r ∈ s.unitRuns e k, InRun r p := by
  cases hport : s.portSurface e with
  | none =>
    have hx : 0 < e.size.x := Nat.zero_lt_of_lt hbox.1
    rw [elementsBefore_memory h hport hx, elementsBefore_memory h hport hx] at hasc hdesc
    rw [unitCount_memory hport] at hk
    rw [unitRuns_memory hport]
    exact ⟨_, List.mem_singleton_self _,
      segment_covers e (segmentLength_pos h.element) hk hbox (fun hd => hasc (.inl hd)) fun hd => hdesc hd hport⟩
  | some f =>
    obtain ⟨hlow, hhigh⟩ := hasc (.inr (by simp [hport]))
    rw [elementsBefore_succ, unitElements_port h hport hk, elementsBefore_port h hport hk] at hhigh
    rw [elementsBefore_port h hport hk] at hlow
    rw [unitRuns_port hport]
    exact burstRuns_covers e hbox _ _ _ (Nat.min_le_left ..) hlow hhigh

/-- Each place before the end of unit `n - 1` falls to one of the first `n` units. -/
theorem unit_at_place (s : State) (e : Entry) {i : Nat} : ∀ {n : Nat}, i < elementsBefore s e n →
    ∃ k < n, elementsBefore s e k ≤ i ∧ i < elementsBefore s e (k + 1)
  | 0, h => absurd h (Nat.not_lt_zero i)
  | n + 1, h => by
    by_cases hn : i < elementsBefore s e n
    · obtain ⟨k, hk, hplace⟩ := unit_at_place s e hn
      exact ⟨k, Nat.lt_succ_of_lt hk, hplace⟩
    · exact ⟨n, Nat.lt_succ_self n, Nat.le_of_not_lt hn, h⟩

theorem rank_lt_effective {p : Triple} (hbox : InBox e.size p) : rank e.size p < e.effective := by
  obtain ⟨hx, hy, hz⟩ := hbox
  have hrow : p.z * e.size.y + p.y + 1 ≤ e.size.y * e.size.z := by
    have := Nat.mul_le_mul_left e.size.y (Nat.succ_le_of_lt hz)
    rw [Nat.mul_succ, Nat.mul_comm] at this
    omega
  have hend := Nat.mul_le_mul_left e.size.x hrow
  rw [Nat.mul_succ, Nat.mul_comm] at hend
  rw [rank, Entry.effective, Nat.mul_assoc]
  omega

/-- Every element of the rectangle is in a unit. -/
theorem exists_unit (h : UnitsFit s e) {p : Triple} (hbox : InBox e.size p) :
    ∃ k < s.unitCount e, ∃ r ∈ s.unitRuns e k, InRun r p := by
  have hplace := rank_lt_effective hbox
  have htotal := elementsBefore_unitCount h (Nat.ne_zero_of_lt hplace)
  by_cases hasc : e.descending = false ∨ s.portSurface e ≠ none
  · obtain ⟨k, hk, hrange⟩ := unit_at_place s e (htotal ▸ hplace)
    exact ⟨k, hk, unit_covers h hk hbox (fun _ => hrange) fun hd hp => absurd hasc (by simp [hd, hp])⟩
  · obtain ⟨k, hk, hlow, hhigh⟩ := unit_at_place s e (i := e.effective - 1 - rank e.size p) (n := s.unitCount e) (by omega)
    exact ⟨k, hk, unit_covers h hk hbox (fun ha => absurd ha hasc) fun _ _ => by omega⟩

/-- An element is in one unit only: the units follow one another in traversal order (O27). -/
theorem unit_unique (h : UnitsFit s e) {k l : Nat} {p : Triple} (hk : k < s.unitCount e) (hl : l < s.unitCount e)
    (hpk : ∃ r ∈ s.unitRuns e k, InRun r p) (hpl : ∃ r ∈ s.unitRuns e l, InRun r p) : k = l := by
  have hnever {k l : Nat} (hkl : k < l) (hl : l < s.unitCount e) (hpk : ∃ r ∈ s.unitRuns e k, InRun r p)
      (hpl : ∃ r ∈ s.unitRuns e l, InRun r p) : False := by
    obtain ⟨hasc, hdesc⟩ := unitsInTraversalOrder s e k l p p h.element h.burst hkl hl hpk hpl
    by_cases ha : e.descending = false ∨ s.portSurface e ≠ none
    · exact lt_irrefl _ (hasc ha)
    · simp only [not_or, Bool.not_eq_false, not_not] at ha
      exact lt_irrefl _ (hdesc ha.1 ha.2)
  rcases Nat.lt_trichotomy k l with hkl | hkl | hkl
  · exact (hnever hkl hl hpk hpl).elim
  · exact hkl
  · exact (hnever hkl hk hpl hpk).elim

/-- A segment fits into the segment buffer (R75). -/
theorem segment_bytes (hport : s.portSurface e = none) (k : Nat) :
    s.unitElements e k * s.elementBytes e ≤ 256 := by
  rw [unitElements_memory hport, segmentRun_length]
  exact (Nat.mul_le_mul_right _ (Nat.min_le_left ..)).trans (Nat.div_mul_le_self 256 _)

/-- A port burst has at most B elements, and each but the last B (R82). -/
theorem portUnit_elements (h : UnitsFit s e) {f : Surface} (hport : s.portSurface e = some f) {k : Nat}
    (hk : k < s.unitCount e) :
    s.unitElements e k ≤ f.burst.toNat ∧ (k + 1 < s.unitCount e → s.unitElements e k = f.burst.toNat) := by
  rw [unitElements_port h hport hk]
  refine ⟨Nat.min_le_left .., fun hnext => Nat.min_eq_left ?_⟩
  rw [unitCount_port hport, lt_ceilDiv_iff (h.burst f hport), Nat.add_one_mul] at hnext
  omega

/-- The units' elements add up to the effective count, also where there are none. -/
theorem elementsBefore_all (h : UnitsFit s e) : elementsBefore s e (s.unitCount e) = e.effective := by
  by_cases hpos : e.effective = 0
  · have hnone : s.unitCount e = 0 := by
      by_contra hne
      obtain ⟨hx, hy, hz⟩ := size_pos_of_unit h (Nat.pos_of_ne_zero hne)
      exact (Nat.mul_pos (Nat.mul_pos hx hy) hz).ne' hpos
    rw [hnone, hpos]
    rfl
  · exact elementsBefore_unitCount h hpos

end Covers

/-- Settles O26: the units take the places of the rectangle one after another and leave none out. -/
theorem unitsTileRectangle : Obligations.UnitsTileRectangle := by
  intro s e helement hburst
  have h : UnitsFit s e := ⟨helement, hburst⟩
  refine ⟨fun p hbox => ?_, fun k hk => ⟨unitElements_pos h hk, fun hp => segment_bytes hp k,
    fun f hp => portUnit_elements h hp hk, unitRuns_fit h hk⟩, elementsBefore_all h⟩
  obtain ⟨k, hk, hin⟩ := exists_unit h hbox
  exact ⟨k, ⟨hk, hin⟩, fun l ⟨hl, hin'⟩ => unit_unique h hl hk hin' hin⟩

end Sys2Proof.Machine
end

section
/-! The beats over a byte range, word by word (O29), and the three forms of master-port burst (O30). -/

namespace Sys2Proof.Machine

open Sys2Proof.Safety

/-! ### The words of a byte range -/

/-- Beats over cells are at the words from their address on, in ascending order: as many as the cells fill in fours. -/
theorem packBeats_words (a : Nat) (cells : List (Option Byte)) (h : a + cells.length ≤ 2 ^ 32) :
    (packBeats a cells).map (fun b => b.address.toNat) = (List.range ((cells.length + 3) / 4)).map fun i => a + 4 * i := by
  revert h
  refine fours_induction (P := fun a cells => a + cells.length ≤ 2 ^ 32 → (packBeats a cells).map (fun b => b.address.toNat)
    = (List.range ((cells.length + 3) / 4)).map fun i => a + 4 * i) ?_ ?_ a cells
  · intro a _
    rfl
  · intro a cells hne ih h
    have hpos := List.length_pos_iff.mpr hne
    have hcount : (cells.length + 3) / 4 = ((cells.drop 4).length + 3) / 4 + 1 := by
      rw [List.length_drop]
      omega
    have hrest : (packBeats (a + 4) (cells.drop 4)).map (fun b => b.address.toNat)
        = (List.range (((cells.drop 4).length + 3) / 4)).map fun i => a + 4 + 4 * i := by
      by_cases hlong : 4 ≤ cells.length
      · exact ih (by rw [List.length_drop]; omega)
      · rw [List.drop_eq_nil_of_le (by omega)]
        rfl
    rw [packBeats_cons a hne, List.map_cons, hrest, packBeat_address (by omega), hcount, List.range_succ_eq_map,
      List.map_cons, List.map_map]
    exact congrArg (a :: ·) (List.map_congr_left fun i _ => by simp only [Function.comp_apply]; omega)

/-- The beats over a byte range are at the words from that of its first byte to that of its last (R77, R78). -/
theorem coverBeats_words {a : Nat} {cells : List (Option Byte)} (hne : cells ≠ []) (h : a + cells.length ≤ 2 ^ 32) :
    (coverBeats a cells).map (fun b => b.address.toNat)
      = (List.range ((a + cells.length - 1) / 4 - a / 4 + 1)).map fun i => a / 4 * 4 + 4 * i := by
  have hpos := List.length_pos_iff.mpr hne
  have hword : a - a % 4 = a / 4 * 4 := by omega
  have hcount : (a % 4 + cells.length + 3) / 4 = (a + cells.length - 1) / 4 - a / 4 + 1 := by omega
  rw [coverBeats, packBeats_words _ _ (by simp; omega), List.length_append, List.length_replicate, hword, hcount]

/-- Settles O29: the words, and what the beats write and read by the laws of their cells. -/
theorem beatsCoverByteRange : Obligations.BeatsCoverByteRange := fun _ _ hne h =>
  ⟨coverBeats_words hne h, fun x v => coverBeats_writes x v h, fun mem => readBursts_reads mem h⟩

/-! ### Incrementing bursts -/

/-- The pieces of a list: none empty, none longer than `n`, and each but the last of `n`. -/
theorem cut_piece {α : Type} {n : Nat} (hn : 0 < n) :
    ∀ (fuel : Nat) (l : List α), ∀ p ∈ cut n fuel l,
      p ≠ [] ∧ p.length ≤ n ∧ (some p ≠ (cut n fuel l).getLast? → p.length = n)
  | 0, _, _, hp => by cases hp
  | _ + 1, [], _, hp => by cases hp
  | fuel + 1, a :: l, p, hp => by
    rw [cut] at hp ⊢
    rcases List.mem_cons.mp hp with rfl | hrest
    · refine ⟨by simp [hn.ne'], List.length_take_le .., fun hlast => ?_⟩
      refine List.length_take_of_le (le_of_not_gt fun hshort => hlast ?_)
      rw [List.drop_eq_nil_of_le hshort.le]
      cases fuel <;> rfl
    · obtain ⟨hne, hle, hfull⟩ := cut_piece hn fuel _ p hrest
      refine ⟨hne, hle, fun hlast => hfull ?_⟩
      rwa [List.getLast?_cons_of_ne_nil (List.ne_nil_of_mem hrest)] at hlast

/-- A memory run's bursts: incrementing, from their first beat, of 1 to 16 beats, and each but the last of 16 (R77, R176). -/
theorem incrementingBursts_form (write : Bool) (beats : List Beat) :
    ∀ b ∈ incrementingBursts write beats,
      b.form = .incrementing ∧ b.write = write ∧ b.length = b.beats.length ∧ 1 ≤ b.length ∧ b.length ≤ 16
      ∧ (b.beats.head?.map Beat.address = some b.start)
      ∧ (some b ≠ (incrementingBursts write beats).getLast? → b.length = 16) := by
  intro b hb
  obtain ⟨piece, hpiece, rfl⟩ := List.mem_map.mp hb
  obtain ⟨hne, hle, hfull⟩ := cut_piece (by decide) _ beats piece hpiece
  refine ⟨rfl, rfl, rfl, List.length_pos_iff.mpr hne, hle, ?start, fun hlast => hfull fun hp => hlast ?last⟩
  case start =>
    obtain ⟨first, rest, rfl⟩ := List.exists_cons_of_ne_nil hne
    rfl
  case last => rw [incrementingBursts, List.getLast?_map, ← hp, Option.map_some]

/-! ### Port accesses -/

/-- The lanes of one port access: all of a 4-byte element, else those that the base selects (R83). -/
theorem portBeat_eq {f : Surface} (h : DescriptorLegal f) (bytes : List Byte) :
    portBeat f bytes =
      { address := f.base
        enables :=
          if f.elementSize = 4 then 15#4
          else if f.elementSize = 2 then 3#4 <<< (f.base.toNat % 4)
          else 1#4 <<< (f.base.toNat % 4)
        bytes := bytes } := by
  obtain ⟨hsize, haligned, -⟩ := h
  have hlanes : ∀ r < 4, (r % 4 = 0 → laneMask r (List.replicate 4 (some 0)) = 15#4)
      ∧ (r % 2 = 0 → laneMask r (List.replicate 2 (some 0)) = 3#4 <<< r)
      ∧ laneMask r (List.replicate 1 (some 0)) = 1#4 <<< r := by decide
  obtain ⟨hfour, htwo, hone⟩ := hlanes (f.base.toNat % 4) (Nat.mod_lt _ (by decide))
  unfold portBeat
  congr 1
  rcases hsize with hes | hes | hes <;> rw [hes] at haligned ⊢
  · have hsize : f.elementSize = 1 := BitVec.eq_of_toNat_eq hes
    rw [hone, hsize]
    rfl
  · have hsize : f.elementSize = 2 := BitVec.eq_of_toNat_eq hes
    rw [htwo (by omega), hsize]
    rfl
  · rw [hfour (by omega), if_pos (BitVec.eq_of_toNat_eq hes)]

/-- A port side of 4-byte elements is one fixed burst at the base (R83). -/
theorem portBursts_fixed {f : Surface} (hsize : f.elementSize = 4) (write : Bool) {elements : List (List Byte)}
    (hne : elements ≠ []) : portBursts f write elements = [mkBurst .fixed write (elements.map (portBeat f))] := by
  simp [portBursts, hsize, hne]

/-- A port side of smaller elements is one single-beat access for each (R83). -/
theorem portBursts_single {f : Surface} (hsize : f.elementSize ≠ 4) (write : Bool) (elements : List (List Byte)) :
    portBursts f write elements = elements.map fun el => mkBurst .single write [portBeat f el] := by
  have hnot : f.elementSize.toNat ≠ 4 := fun h => hsize (BitVec.eq_of_toNat_eq h)
  simp [portBursts, hnot, Function.comp_def]

/-- Settles O30: the pieces of a memory run, and the accesses of a port side by its element size. -/
theorem burstForms : Obligations.BurstForms := by
  refine ⟨fun write beats => ⟨incrementingBursts_beats write beats, incrementingBursts_form write beats⟩,
    fun f write elements hlegal => ⟨?beats, fun hfour hne => ?fixed, fun hsmall => ?single⟩⟩
  case beats =>
    rw [portBursts_beats]
    exact List.map_congr_left fun el _ => portBeat_eq hlegal el
  case fixed =>
    obtain ⟨el, rest, rfl⟩ := List.exists_cons_of_ne_nil hne
    exact ⟨_, portBursts_fixed hfour write hne, rfl, rfl, rfl, List.length_map ..⟩
  case single =>
    rw [portBursts_single hsmall]
    refine ⟨List.length_map .., fun b hb => ?_⟩
    obtain ⟨el, -, rfl⟩ := List.mem_map.mp hb
    exact ⟨rfl, rfl, rfl⟩

end Sys2Proof.Machine
end

section
/-! The agreement of movers, lines, port and list reader through every command (O36) fails as stated: `ReaderSound` asks of the
list reader's waiting request its eight beats, and of its burst in progress also that it is a read. A waiting request that is a
write therefore agrees with everything until it is granted. The device never makes such a request (R137), but the invariant does
not say so, and one command from a state that meets it leads out of it. -/

namespace Sys2Proof.Machine

open Sys2Proof.Safety

/-- Eight beats from address 0 as a write. -/
def writingFetch : Burst :=
  mkBurst .incrementing true (fetchBeats 0)

/-- The last beat of a burst of mover 1 whose transfer has gone. -/
def orphanedAccess : Grant where
  owner := .mover 1
  live := false
  burst := mkBurst .single false [{ address := 0, enables := 15#4, bytes := [] }]

/-- The device after reset, but for a list reader in FETCH that waits with a write behind an orphaned burst. -/
def writingFetchWaits : State :=
  { State.reset with
    reader := { ListReader.reset with state := .fetch, request := some writingFetch }
    rotation := [.mover 0, .reader, .mover 1]
    grant := some orphanedAccess }

theorem writingFetchWaits_request (r : Requester) :
    writingFetchWaits.waiting r = if r = .reader then some writingFetch else none := by
  cases r with
  | reader => rfl
  | mover m => exact congrArg Mover.request (reset_mover m)

/-- The port agrees with its requesters: the owner of the orphaned burst stands last, and the reader's request has beats. -/
theorem writingFetchWaits_portSound : PortSound writingFetchWaits := by
  refine ⟨by decide, nofun, fun r _ b hb => ?waiting, fun m b hb => ?bursts, fun g hg => ?grant⟩
  case waiting =>
    rw [writingFetchWaits_request] at hb
    split at hb
    · obtain rfl : writingFetch = b := Option.some.inj hb
      decide
    · cases hb
  case bursts =>
    have hidle : writingFetchWaits.mover m = Mover.idle := reset_mover m
    rw [hidle] at hb
    cases hb
  case grant =>
    obtain rfl : orphanedAccess = g := Option.some.inj hg
    exact ⟨by decide, rfl, nofun, nofun, nofun⟩

/-- The movers and lines are those of the reset state; the list reader in FETCH has its request of eight beats. -/
theorem writingFetchWaits_sound : EngineSound writingFetchWaits := by
  obtain ⟨hmovers, hlines, hbinding, hpaced, -, -, hreset, happart⟩ := reset_engineSound
  exact ⟨hmovers, hlines, hbinding, hpaced, writingFetchWaits_portSound, by decide, hreset, happart⟩

/-- Refutes O36: the beat that ends the orphaned burst grants the write, and then the list reader in FETCH has no request, and
no read in progress. -/
theorem not_engineStaysSound : ¬ Obligations.EngineStaysSound := by
  intro h
  obtain ⟨-, -, -, -, -, ⟨-, -, -, -, -, -, hfetch⟩, -, -⟩ :=
    h (.beatAnswered 0) writingFetchWaits (writingFetchWaits.answerBeat 0) writingFetchWaits_sound rfl
  rcases hfetch (by decide) with ⟨b, hrequest, -⟩ | ⟨g, hgrant, -, -, hread, -⟩
  · have hnone : (writingFetchWaits.answerBeat 0).reader.request = none := by decide
    rw [hnone] at hrequest
    cases hrequest
  · have hwrite : ∀ g ∈ (writingFetchWaits.answerBeat 0).grant, g.burst.write = true := by decide
    rw [hwrite g hgrant] at hread
    cases hread

end Sys2Proof.Machine
end

section
/-! The request inputs (O37): PREQ_ACTIVE and PREQ_INACTIVE at a line. -/

namespace Sys2Proof.Machine

open Sys2Proof.Safety

/-! ### An admission, mover by mover and line by line -/

/-- The mover of a unit that starts: its buffer empty, its bursts requested or to be requested (R74). -/
theorem startUnit_begins {s : State} {m : MoverIndex} {t : Entry} (ht : (s.mover m).transfer = some t) :
    ∃ later request, (s.startUnit m).mover m =
      (((s.mover m).beginUnit (startSide t)).queued later).requesting request := by
  obtain ⟨q, hq⟩ := launch_mover (s.setMover m ((s.mover m).beginUnit (startSide t))) m
    (startPlan s t (s.mover m).position)
  rw [setMover_mover] at hq
  exact ⟨_, q, (congrArg (State.mover · m) (startUnit_eq ht)).trans hq⟩

/-- The mover of a burst that is admitted: in RUN at the start of its unit (R102). -/
theorem admitBurst_begins {s : State} {m : MoverIndex} {t : Entry} (n : LineIndex) (ht : (s.mover m).transfer = some t) :
    ∃ later request, (s.admitBurst n m).mover m =
      ((((s.mover m).inState .run).beginUnit (startSide t)).queued later).requesting request := by
  have hrun : ((s.setLine n (s.line n).admitting).setMover m ((s.mover m).inState .run)).mover m
      = (s.mover m).inState .run := setMover_mover _ m _
  obtain ⟨later, request, h⟩ := startUnit_begins (t := t) ((congrArg Mover.transfer hrun).trans ht)
  rw [hrun] at h
  exact ⟨later, request, h⟩

theorem admitBurst_line_ne (s : State) {n k : LineIndex} (hk : k ≠ n) (m : MoverIndex) :
    (s.admitBurst n m).line k = s.line k :=
  (line_congr (startUnit_lines _ m) k).trans (setLine_line_ne s hk _)

theorem admitBurst_others (s : State) (n : LineIndex) {m k : MoverIndex} (hk : k ≠ m) :
    (s.admitBurst n m).mover k = s.mover k :=
  ((startUnit_work _ m).others k hk).trans (setMover_mover_ne _ hk _)

/-! ### The levels -/

section Levels

variable {s : State} {n : LineIndex}

theorem exec_preqActive (hreset : s.inReset = false) : exec (.preqActive n) s = .next (s.requestRises n) := by
  simp [exec, execPreqActive, hreset]

theorem exec_preqInactive (hreset : s.inReset = false) : exec (.preqInactive n) s = .next (s.requestFalls n) := by
  simp [exec, execPreqInactive, hreset]

/-- Outside WAIT the level alone changes (R98). -/
theorem requestRises_level (h : (s.line n).state ≠ .wait) : s.requestRises n = s.setRequest n true := by
  unfold State.requestRises
  dsimp only
  split
  · rename_i hwait _
    exact absurd hwait h
  · rfl

/-- In WAIT the line admits a burst (R102). -/
theorem requestRises_admits {m : MoverIndex} (hwait : (s.line n).state = .wait) (hbound : (s.line n).bound = some m) :
    s.requestRises n = (s.setRequest n true).admitBurst n m := by
  unfold State.requestRises
  dsimp only
  rw [hwait, hbound]

/-- PREQn inactive: WAIT_LOW goes on to WAIT, its timer untouched, and any other state stays (R98, R104). -/
theorem requestFalls_eq :
    s.requestFalls n = s.setLine n { s.line n with
      request := false
      state := if (s.line n).state = .waitLow then .wait else (s.line n).state } := by
  have hline : (s.setRequest n false).line n = { s.line n with request := false } := setLine_line s n _
  unfold State.requestFalls
  dsimp only
  split
  · rw [hline]
    simp [State.setRequest, State.setLine]
  · rfl

theorem requestRises_hostSide : HostSideKept s (s.requestRises n) :=
  hostSide_of_engine (requestRises_engineOnly s n) ((settings_steps s).event.requestRises False.elim n (.refl s))

end Levels

/-- Settles O37: an admission is the line's part, the start of the unit, and nothing else. -/
theorem requestLevelsAtLine : Obligations.RequestLevelsAtLine := by
  intro s n hreset
  rw [exec_preqActive hreset, exec_preqInactive hreset, requestFalls_eq]
  refine ⟨fun hstate => by rw [requestRises_level hstate]; rfl, fun m t hwait hbound ht => ⟨_, rfl, ?_⟩, rfl⟩
  have hhost := requestRises_hostSide (s := s) (n := n)
  obtain ⟨_, _, _, _, hport⟩ := admit_portOnly (s.setRequest n true) m n
  obtain ⟨later, request, hmover⟩ := admitBurst_begins (s := s.setRequest n true) n ht
  have hline := admitBurst_line (s.setRequest n true) m n
  have hlevel : (s.setRequest n true).line n = { s.line n with request := true } := setLine_line s n _
  rw [hlevel] at hline
  rw [requestRises_admits hwait hbound] at hhost ⊢
  have item {α : Type} (g : Mover → α) := congrArg g hmover
  refine ⟨hline, fun hclear => ?outstanding, ?pack, fun k hk => ?lines, item Mover.state, (item Mover.transfer).trans ht,
    item Mover.position, item Mover.moved, item Mover.skipped, item Mover.buffer, fun k hk => ?movers,
    ?_, ?_, ?_, ?_, ?_, ?_, hhost⟩
  case outstanding =>
    obtain ⟨hheld, hrequest, -⟩ := idle_of_outstanding hclear
    exact admitBurst_outstanding (s := s.setRequest n true) n ht hheld hrequest
  case pack =>
    rw [State.packActive, hline]
    rfl
  case lines => exact (admitBurst_line_ne _ hk m).trans (setLine_line_ne s hk _)
  case movers => exact admitBurst_others _ n hk
  all_goals
    rw [hport]
    rfl

end Sys2Proof.Machine
end

section
/-! Beat answers on the master port: BEAT_ANSWERED burst by burst (O31) and BEAT_ERROR (O33). -/

namespace Sys2Proof.Machine

open Sys2Proof.Safety

/-! ### The answer of one beat -/

/-- The mover after one more beat of its burst: the bytes of the enabled lanes of a read (R77, R83). -/
def Mover.answered (mv : Mover) (write : Bool) (b : Beat) (data : Word) : Mover :=
  if write then mv else mv.taking (laneBytes b.enables data)

theorem takeData_mover (s : State) (m : MoverIndex) (write : Bool) (b : Beat) (data : Word) :
    s.takeData (.mover m) write b data = s.setMover m ((s.mover m).answered write b data) := by
  cases write with
  | true => exact (setMover_self s m).symm
  | false => rfl

theorem takeData_write (s : State) (r : Requester) (b : Beat) (data : Word) : s.takeData r true b data = s := rfl

section Answers

variable {s : State} {g : Grant} {b : Beat} (data : Word) (hgrant : s.grant = some g)

theorem exec_beatAnswered (hreset : s.inReset = false) : exec (.beatAnswered data) s = .next (s.answerBeat data) :=
  congrArg Host.Outcome.next (unlessReset_high hreset _)

include hgrant

/-- With beats left the burst goes on, and its owner keeps the data (R77, R177). -/
theorem answerBeat_more {rest : List Beat} (hbeats : g.burst.beats = b :: rest) (hrest : rest ≠ []) :
    s.answerBeat data =
      { (if g.live then s.takeData g.owner g.burst.write b data else s) with
        grant := some { g with burst := { g.burst with beats := rest } } } := by
  unfold State.answerBeat
  rw [hgrant]
  dsimp only
  rw [hbeats]
  exact if_neg (by simpa using hrest)

/-- The last beat of a burst whose requester has gone frees the port (R177, R179). -/
theorem answerBeat_orphan (hbeats : g.burst.beats = [b]) (hlive : g.live = false) : s.answerBeat data = s.releasePort := by
  unfold State.answerBeat
  rw [hgrant]
  dsimp only
  rw [hbeats]
  simp [hlive, State.completeBurst]

/-- The last beat of a mover's burst frees the port, and then the mover goes on (R177, R178). -/
theorem answerBeat_last {m : MoverIndex} (hbeats : g.burst.beats = [b]) (hlive : g.live = true) (howner : g.owner = .mover m) :
    s.answerBeat data =
      let u := (s.setMover m ((s.mover m).answered g.burst.write b data)).releasePort
      u.eitherOrder (u.continueSide m) := by
  unfold State.answerBeat
  rw [hgrant]
  dsimp only
  rw [hbeats]
  simp only [hlive, if_true, List.isEmpty_nil, State.completeBurst, howner, takeData_mover]
  rfl

end Answers

/-- A side that starts at a free port: its first burst is granted (R77, R88). -/
theorem launch_free {s : State} {m : MoverIndex} (h : s.grant = none) (b : Burst) (bs : List Burst) :
    s.launch m (b :: bs) = (s.setMover m ((s.mover m).queued bs)).grantTo (.mover m) b := by
  unfold State.launch State.requestBurst
  dsimp only
  rw [setMover_grant, h]

/-- A mover whose side has more bursts goes on with the next of them (R77, R88). -/
theorem continueSide_more {s : State} {m : MoverIndex} {b : Burst} {bs : List Burst} (h : (s.mover m).bursts = b :: bs) :
    s.continueSide m = s.launch m (b :: bs) := by
  unfold State.continueSide
  dsimp only
  rw [h]

theorem answered_items (mv : Mover) (write : Bool) (b : Beat) (data : Word) :
    mv.answered write b data =
      { mv with buffer := if write then mv.buffer else mv.buffer ++ laneBytes b.enables data } := by
  cases write <;> rfl

/-- The last beat of a burst with more of its side to come, where nobody waits: the next burst is granted (R178). -/
theorem answerBeat_next {s : State} {g : Grant} {b : Beat} {m : MoverIndex} {next : Burst} {later : List Burst} (data : Word)
    (hgrant : s.grant = some g) (hbeats : g.burst.beats = [b]) (hlive : g.live = true) (howner : g.owner = .mover m)
    (hquiet : ∀ r, s.waiting r = none) (hbursts : (s.mover m).bursts = next :: later) :
    s.answerBeat data =
      (s.setMover m (((s.mover m).answered g.burst.write b data).queued later)).grantTo (.mover m) next := by
  set v := (s.mover m).answered g.burst.write b data with hv
  have hitems := answered_items (s.mover m) g.burst.write b data
  rw [← hv] at hitems
  have hrequest : v.request = none := (congrArg Mover.request hitems).trans (hquiet (.mover m))
  have hwaiting := waiting_setMover (m := m) hquiet hrequest
  have hmover : (s.setMover m v).mover m = v := setMover_mover s m v
  have hfree : (s.setMover m v).releasePort = (s.setMover m v).portFree := releasePort_quiet hwaiting
  have hnext : (s.setMover m v).portFree.continueSide m
      = (s.setMover m (v.queued later)).portFree.grantTo (.mover m) next := by
    have hqueue : ((s.setMover m v).portFree.mover m).bursts = next :: later := by
      show ((s.setMover m v).mover m).bursts = _
      rw [hmover, hitems]
      exact hbursts
    rw [continueSide_more hqueue, launch_free rfl, portFree_setMover]
    show (State.portFree (s.setMover m (((s.setMover m v).mover m).queued later))).grantTo _ _ = _
    rw [hmover]
  rw [answerBeat_last data hgrant hbeats hlive howner, ← hv]
  dsimp only
  rw [hfree, hnext]
  refine eitherOrder_of_quiet _ (firstWaiting_none fun r _ => ?_)
  exact waiting_setMover (v := v.queued later) hquiet hrequest r

/-- Settles O31: the answer with beats left, the last beat of an orphan, and the next burst of a side. -/
theorem beatAnsweredAdvancesBurst : Obligations.BeatAnsweredAdvancesBurst := by
  intro s data hreset
  rw [exec_beatAnswered data hreset]
  refine ⟨fun hfree => ?free, fun g b rest hgrant hbeats => ?_⟩
  case free =>
    unfold State.answerBeat
    rw [hfree]
  refine ⟨fun hrest hlive hread m howner => ?mover, fun hrest hlive hread howner => ?reader, fun hrest hnobody => ?nobody,
    fun hrest hlive hquiet => ?orphan, fun hrest hlive hquiet m next later howner _ hbursts => ?next⟩
  case mover =>
    rw [answerBeat_more data hgrant hbeats hrest, if_pos hlive, howner, hread]
    rfl
  case reader =>
    rw [answerBeat_more data hgrant hbeats hrest, if_pos hlive, howner, hread]
    rfl
  case nobody =>
    rw [answerBeat_more data hgrant hbeats hrest]
    rcases hnobody with hlive | hwrite
    · rw [hlive]
      rfl
    · rw [hwrite, takeData_write, ite_self]
  case orphan =>
    rw [answerBeat_orphan data hgrant (hrest ▸ hbeats) hlive, releasePort_quiet hquiet]
  case next =>
    rw [answerBeat_next data hgrant (hrest ▸ hbeats) hlive howner hquiet hbursts, answered_items]
    rfl

end Sys2Proof.Machine
end

section
/-! BEAT_ERROR (O33): the end of a burst whose requester has gone, of a mover's transfer and of a list. -/

namespace Sys2Proof.Machine

open Sys2Proof.Safety

/-! ### The port where a requester waits -/

/-- The port freed: the first waiting requester is granted its burst, or the port stays free (R177, R178). -/
theorem releasePort_eq (s : State) :
    s.releasePort =
      (s.portFree.firstWaiting.bind fun r =>
        (s.portFree.waiting r).map fun b => (s.portFree.setWaiting r none).grantTo r b).getD s.portFree := by
  unfold State.releasePort State.portFree
  dsimp only
  cases State.firstWaiting { s with grant := none } with
  | none => rfl
  | some r =>
    rw [Option.bind_some]
    dsimp only
    cases State.waiting { s with grant := none } r <;> rfl

/-- The port is freed with the first waiting requester of the rotation order granted (R178). -/
theorem releasePort_grants {s : State} {r : Requester} {next : Burst} {before after : List Requester}
    (horder : s.rotation = before ++ r :: after) (hbefore : ∀ k ∈ before, s.waiting k = none) (hwaits : s.waiting r = some next) :
    s.releasePort =
      { s.setWaiting r none with
        grant := some { owner := r, live := true, burst := next }
        rotation := s.rotation.erase r ++ [r] } := by
  have hwaiting (k : Requester) : s.portFree.waiting k = s.waiting k := by cases k <;> rfl
  have hfirst : s.portFree.firstWaiting = some r := by
    have hskip : before.find? (fun k => (s.waiting k).isSome) = none :=
      List.find?_eq_none.mpr fun k hk => by simp [hbefore k hk]
    unfold State.firstWaiting
    simp only [hwaiting]
    show s.rotation.find? _ = _
    rw [horder, List.find?_append, hskip, List.find?_cons_of_pos (by simp [hwaits])]
    rfl
  rw [releasePort_eq, hfirst, Option.bind_some, hwaiting, hwaits]
  cases r <;> rfl

/-- A mover that agrees with another in all but its request. -/
theorem eq_requesting {v w : Mover} (h : v.requesting none = w.requesting none) : v = w.requesting v.request :=
  (congrArg (Mover.requesting · v.request) h :)

/-- The port freed changes of a mover its request alone. -/
theorem releasePort_mover (s : State) (k : MoverIndex) :
    s.releasePort.mover k = (s.mover k).requesting (s.releasePort.mover k).request :=
  eq_requesting (releasePort_pending s k).1

/-! ### What an end rests on -/

/-- What the end of mover `m`'s transfer depends on, apart from that mover: records, queue, lines, surfaces, causes, and whether
the other mover has ended. The HALT cause may differ. -/
structure SameBeforeEnd (m : MoverIndex) (s t : State) : Prop where
  completions : t.completions = s.completions
  sequence : t.sequence = s.sequence
  queue : t.queue = s.queue
  lines : t.lines = s.lines
  surfaces : t.surfaces = s.surfaces
  freedSet : t.freedSet = s.freedSet
  causes : ∀ k, k ≠ .halt → t.causeSet k = s.causeSet k
  threshold : t.completionThreshold = s.completionThreshold
  others : ∀ k, k ≠ m → (t.mover k).state = (s.mover k).state ∧ (t.mover k).transfer = (s.mover k).transfer
  host : HostSideKept s t

theorem hostSide_trans {s t u : State} (h : HostSideKept s t) (k : HostSideKept t u) : HostSideKept s u := by
  obtain ⟨h1, h2, h3, h4, h5, h6, h7, h8, h9, h10, h11, h12, h13, h14, hlines⟩ := h
  obtain ⟨k1, k2, k3, k4, k5, k6, k7, k8, k9, k10, k11, k12, k13, k14, klines⟩ := k
  exact ⟨k1.trans h1, k2.trans h2, k3.trans h3, k4.trans h4, k5.trans h5, k6.trans h6, k7.trans h7, k8.trans h8, k9.trans h9,
    k10.trans h10, k11.trans h11, k12.trans h12, k13.trans h13, k14.trans h14, SettingsKept.trans hlines klines⟩

theorem SameBeforeEnd.trans {m : MoverIndex} {s t u : State} (h : SameBeforeEnd m s t) (k : SameBeforeEnd m t u) :
    SameBeforeEnd m s u where
  completions := k.completions.trans h.completions
  sequence := k.sequence.trans h.sequence
  queue := k.queue.trans h.queue
  lines := k.lines.trans h.lines
  surfaces := k.surfaces.trans h.surfaces
  freedSet := k.freedSet.trans h.freedSet
  causes c hc := (k.causes c hc).trans (h.causes c hc)
  threshold := k.threshold.trans h.threshold
  others j hj := ⟨(k.others j hj).1.trans (h.others j hj).1, (k.others j hj).2.trans (h.others j hj).2⟩
  host := hostSide_trans h.host k.host

/-- An update of the mover itself is no part of it. -/
theorem setMover_beforeEnd (s : State) (m : MoverIndex) (v : Mover) : SameBeforeEnd m s (s.setMover m v) :=
  ⟨rfl, rfl, rfl, rfl, rfl, rfl, fun _ _ => rfl, rfl,
    fun _ hk => ⟨congrArg Mover.state (setMover_mover_ne s hk v), congrArg Mover.transfer (setMover_mover_ne s hk v)⟩,
    hostSide_of_engine (setMover_portOnly s m v).engine (.of_lines rfl)⟩

/-- The port freed: requests and the burst in progress are no part of it. -/
theorem releasePort_beforeEnd (s : State) (m : MoverIndex) : SameBeforeEnd m s s.releasePort := by
  have hothers (k : MoverIndex) :
      (s.releasePort.mover k).state = (s.mover k).state ∧ (s.releasePort.mover k).transfer = (s.mover k).transfer := by
    rw [releasePort_mover]
    exact ⟨rfl, rfl⟩
  have hhost : HostSideKept s s.releasePort :=
    hostSide_of_engine (releasePort_engineOnly s) (.of_lines (releasePort_frame s).1)
  obtain ⟨_, _, _, _, _, h⟩ := releasePort_arbiterOnly s
  rw [h] at hothers hhost ⊢
  exact ⟨rfl, rfl, rfl, rfl, rfl, rfl, fun _ _ => rfl, rfl, fun k _ => hothers k, hhost⟩

/-- A fault captured changes the dispatcher and the HALT cause. -/
theorem captureFault_beforeEnd (s : State) (m : MoverIndex) (r : FaultRecord) : SameBeforeEnd m s (s.captureFault r) := by
  unfold State.captureFault
  split
  · exact ⟨rfl, rfl, rfl, rfl, rfl, rfl, fun _ _ => rfl, rfl, fun _ _ => ⟨rfl, rfl⟩,
      hostSide_of_engine (.refl s) (.refl s)⟩
  · refine ⟨rfl, rfl, rfl, rfl, rfl, rfl, fun k hk => ?_, rfl, fun _ _ => ⟨rfl, rfl⟩,
      hostSide_of_engine ⟨_, _, _, _, _, _, _, _, _, _, _, _, _, rfl⟩ (.of_lines rfl)⟩
    rw [raise_causeSet, beq_eq_false_iff_ne.mpr hk, Bool.or_false]
    rfl

/-- An end after a change that it does not rest on is an end from before the change. -/
theorem SameBeforeEnd.ends {m : MoverIndex} {s s' u : State} {t : Entry} {o : Outcome} {moved skipped : Nat}
    {f : Option FaultItem} (h : SameBeforeEnd m s s') (hends : Ends s' u m t o moved skipped f) :
    Ends s u m t o moved skipped f := by
  obtain ⟨hposts, hwaits⟩ := hends
  have hreleased (hl : LineReleased s' u t.line) : LineReleased s u t.line := fun n => by
    rw [hl n, line_congr h.lines]
  rw [h.completions] at hposts hwaits
  refine ⟨fun hroom => ?_, fun hfull => ?_⟩
  · obtain ⟨hrecords, hsequence, hidle, hqueue, hlines, hrefs, hcompletion, hsignal, hhost⟩ := hposts hroom
    rw [h.completions, h.sequence] at hrecords
    rw [h.causes .completion nofun, h.threshold, h.completions] at hcompletion
    exact ⟨hrecords, hsequence.trans (congrArg (· + 1) h.sequence), hidle, hqueue.trans h.queue, hreleased hlines,
      returnRefs_congr h.surfaces h.freedSet (h.causes .freed nofun) hrefs, hcompletion,
      hsignal.trans (by rw [h.causes .signal nofun]), hostSide_trans h.host hhost⟩
  · obtain ⟨hstate, htransfer, houtcome, hmoved, hskipped, hfault, hbursts, hothers, hrecords, hsequence, hqueue, hsurfaces,
      hfreed, hlines, hcauses, hhost⟩ := hwaits hfull
    exact ⟨hstate, htransfer, houtcome, hmoved, hskipped, hfault, hbursts,
      fun k hk => ⟨(hothers k hk).1.trans (h.others k hk).1, (hothers k hk).2.trans (h.others k hk).2⟩,
      hrecords.trans h.completions, hsequence.trans h.sequence, hqueue.trans h.queue, hsurfaces.trans h.surfaces,
      hfreed.trans h.freedSet, hreleased hlines, fun k hk => (hcauses k hk).trans (h.causes k hk),
      hostSide_trans h.host hhost⟩

/-- The end of a transfer, seen from a state before it (R92, R121). -/
theorem SameBeforeEnd.endTransfer {m : MoverIndex} {s s' : State} {t : Entry} (h : SameBeforeEnd m s s') (o : Outcome)
    (f : Option FaultItem) (ht : (s'.mover m).transfer = some t) (hquiet : s'.dispatcher.halted = true ∨ s'.queue = [])
    (hothers : s.completions.length < 32 → ∀ k : MoverIndex, k ≠ m → (s.mover k).state ≠ .post) :
    Ends s (s'.endTransfer m o f) m t o (s'.mover m).moved (s'.mover m).skipped f
      ∧ (s'.endTransfer m o f).grant = s'.grant := by
  obtain ⟨hends, hgrant⟩ := endTransfer_ends o f ht hquiet fun hroom k hk => by
    rw [h.completions] at hroom
    rw [(h.others k hk).1]
    exact hothers hroom k hk
  exact ⟨h.ends hends, hgrant⟩

/-! ### An end in HALT -/

theorem serveMover_haltCause (s : State) (m : MoverIndex) : (s.serveMover m).causeSet .halt = s.causeSet .halt := by
  unfold State.serveMover
  dsimp only
  split
  · split
    · rw [returnRefs_causeSet_ne _ _ rfl]
      refine (appendRecord_causeSet s _ .halt).trans ?_
      have hother : (Cause.halt == Cause.completion) = false ∧ (Cause.halt == Cause.signal) = false := ⟨rfl, rfl⟩
      simp [hother]
    · rfl
  · rfl

/-- In HALT the end of a transfer leaves the dispatcher and the HALT cause (R69). -/
theorem endTransfer_halted {s : State} {m : MoverIndex} {o : Outcome} {f : Option FaultItem}
    (h : s.dispatcher.halted = true) :
    (s.endTransfer m o f).dispatcher = s.dispatcher ∧ (s.endTransfer m o f).causeSet .halt = s.causeSet .halt := by
  have hdispatcher : (((s.finish m o f).serveMover 0).serveMover 1).dispatcher = s.dispatcher := by
    rw [serveMover_dispatcher, serveMover_dispatcher, finish_dispatcher]
  unfold State.endTransfer State.settle
  rw [examine_halted (hdispatcher ▸ h), serveMover_haltCause, serveMover_haltCause]
  exact ⟨hdispatcher, (finish_blocks s m o f).2.2.1 .halt⟩

/-! ### A fault captured -/

/-- In RUN the dispatcher captures the fault and halts (R154, R155). -/
theorem captureFault_run {s : State} (r : FaultRecord) (h : s.dispatcher.halted = false) :
    s.captureFault r =
      { s with dispatcher := { halted := true, waitReason := .none, slotRequest := false, fault := some r } }.raise .halt :=
  if_neg (by simp [h])

/-- In HALT it keeps its first fault (R156). -/
theorem captureFault_halt {s : State} (r : FaultRecord) (h : s.dispatcher.halted = true) : s.captureFault r = s :=
  if_pos h

theorem captureFault_frame (s : State) (r : FaultRecord) :
    (s.captureFault r).movers = s.movers ∧ (s.captureFault r).dispatcher.halted = true := by
  cases h : s.dispatcher.halted with
  | true =>
    rw [captureFault_halt r h]
    exact ⟨rfl, h⟩
  | false =>
    rw [captureFault_run r h]
    exact ⟨rfl, rfl⟩

/-! ### BEAT_ERROR -/

theorem failBeat_free {s : State} (h : s.grant = none) : s.failBeat = s := by
  unfold State.failBeat
  rw [h]

section Fails

variable {s : State} {g : Grant} {b : Beat} {rest : List Beat}

theorem exec_beatError (hreset : s.inReset = false) : exec .beatError s = .next s.failBeat :=
  congrArg Host.Outcome.next (unlessReset_high hreset _)

variable (hgrant : s.grant = some g) (hbeats : g.burst.beats = b :: rest)

include hgrant hbeats

/-- An error frees the port, and a requester that is still there receives it (R177, R179). -/
theorem failBeat_eq :
    s.failBeat = if g.live then s.releasePort.burstFailed g.owner g.burst.write b else s.releasePort := by
  unfold State.failBeat
  rw [hgrant]
  dsimp only
  rw [hbeats]

/-- A mover's transfer on which an error falls ends FAULTED, the fault reported first (R90, R154). -/
theorem failBeat_mover {m : MoverIndex} {t : Entry} (hlive : g.live = true) (howner : g.owner = .mover m)
    (ht : (s.mover m).transfer = some t) (item : FaultItem)
    (hitem : item = { address := b.address, side := if g.burst.write then .write else .read }) :
    s.failBeat =
      (s.releasePort.captureFault { mover := m, tag := t.tag, kind := t.kind, item := item }).endTransfer m .faulted
        (some item) := by
  have htransfer : (s.releasePort.mover m).transfer = some t :=
    (congrArg Mover.transfer (releasePort_pending s m).1).trans ht
  rw [failBeat_eq hgrant hbeats, if_pos hlive, howner, hitem]
  unfold State.burstFailed State.moverFault
  dsimp only
  rw [htransfer]

/-- The transfer's end: its record or its wait in POST, with the counts of its completed units (R90, R92). -/
theorem failBeat_ends {m : MoverIndex} {t : Entry} (hlive : g.live = true) (howner : g.owner = .mover m)
    (ht : (s.mover m).transfer = some t) (item : FaultItem)
    (hitem : item = { address := b.address, side := if g.burst.write then .write else .read })
    (hothers : s.completions.length < 32 → ∀ k : MoverIndex, k ≠ m → (s.mover k).state ≠ .post) :
    Ends s s.failBeat m t .faulted (s.mover m).moved (s.mover m).skipped (some item) := by
  rw [failBeat_mover hgrant hbeats hlive howner ht item hitem]
  generalize ({ mover := m, tag := t.tag, kind := t.kind, item := item } : FaultRecord) = r
  obtain ⟨hmovers, hhalted⟩ := captureFault_frame s.releasePort r
  have hmover : (s.releasePort.captureFault r).mover m = (s.mover m).requesting (s.releasePort.mover m).request :=
    (mover_congr hmovers m).trans (releasePort_mover s m)
  have hbefore := (releasePort_beforeEnd s m).trans (captureFault_beforeEnd s.releasePort m r)
  have hends := (hbefore.endTransfer .faulted (some item) ((congrArg Mover.transfer hmover).trans ht) (.inl hhalted) hothers).1
  rwa [hmover] at hends

/-- The dispatcher's part: in RUN it captures the fault and raises HALT, in HALT it keeps what it has (R154 to R156). -/
theorem failBeat_dispatcher {m : MoverIndex} {t : Entry} (hlive : g.live = true) (howner : g.owner = .mover m)
    (ht : (s.mover m).transfer = some t) (item : FaultItem)
    (hitem : item = { address := b.address, side := if g.burst.write then .write else .read }) :
    (s.dispatcher.halted = false →
      s.failBeat.dispatcher = {
        halted := true, waitReason := .none, slotRequest := false
        fault := some { mover := m, tag := t.tag, kind := t.kind, item := item } }
      ∧ s.failBeat.causeSet .halt = true)
    ∧ (s.dispatcher.halted = true →
      s.failBeat.dispatcher = s.dispatcher ∧ s.failBeat.causeSet .halt = s.causeSet .halt) := by
  obtain ⟨_, _, _, _, _, hreleased⟩ := releasePort_arbiterOnly s
  have hport : s.releasePort.dispatcher = s.dispatcher ∧ s.releasePort.causeSet .halt = s.causeSet .halt := by
    rw [hreleased]
    exact ⟨rfl, rfl⟩
  obtain ⟨hdispatcher, hcause⟩ := hport
  rw [failBeat_mover hgrant hbeats hlive howner ht item hitem, ← hdispatcher, ← hcause]
  generalize ({ mover := m, tag := t.tag, kind := t.kind, item := item } : FaultRecord) = r
  obtain ⟨hkept, hflag⟩ := endTransfer_halted (m := m) (o := .faulted) (f := some item)
    (captureFault_frame s.releasePort r).2
  rw [hkept, hflag]
  refine ⟨fun hrun => ?_, fun hhalt => ?_⟩
  · rw [captureFault_run r hrun, raise_causeSet]
    exact ⟨rfl, Bool.or_true _⟩
  · rw [captureFault_halt r hhalt]
    exact ⟨rfl, rfl⟩

/-- An error on a fetch, where nobody waits: the port is free, the list ended FAULTED, LIST raised (R142). -/
theorem failBeat_fetch (hlive : g.live = true) (howner : g.owner = .reader) (hquiet : ∀ r, s.waiting r = none) :
    s.failBeat = s.portFree.endList .faulted none := by
  rw [failBeat_eq hgrant hbeats, if_pos hlive, howner, releasePort_quiet hquiet]
  rfl

end Fails

/-- Settles O33: the port freed, and what the requester that is still there makes of the error. -/
theorem beatErrorFaults : Obligations.BeatErrorFaults := by
  refine ⟨fun s hfree => ?free, fun s g b rest hreset hgrant hlive hbeats => ?orphan,
    fun s g b rest hreset hgrant hlive hbeats => ⟨fun m t howner ht => ?mover, fun howner hquiet => ?reader⟩⟩
  case free =>
    show Host.Outcome.next (s.unlessReset s.failBeat) = _
    rw [failBeat_free hfree, State.unlessReset, ite_self]
  case orphan =>
    have hport : s.failBeat = s.releasePort := by rw [failBeat_eq hgrant hbeats, hlive]; rfl
    rw [exec_beatError hreset, hport]
    exact ⟨fun hquiet => congrArg _ (releasePort_quiet hquiet),
      fun r next before after horder hbefore hwaits => congrArg _ (releasePort_grants horder hbefore hwaits)⟩
  case mover =>
    intro item hothers
    obtain ⟨hrun, hhalt⟩ := failBeat_dispatcher hgrant hbeats hlive howner ht item rfl
    exact ⟨_, exec_beatError hreset, failBeat_ends hgrant hbeats hlive howner ht item rfl hothers, hrun, hhalt⟩
  case reader =>
    rw [exec_beatError hreset, failBeat_fetch hgrant hbeats hlive howner hquiet]
    rfl

end Sys2Proof.Machine
end

section
/-! A mover that goes on after its burst (O32): its line's burst end, its own items through the arbiter's choice, and why its
request alone leaves the arbiter none. -/

namespace Sys2Proof.Machine

open Sys2Proof.Safety

/-! ### The arbiter's choice -/

/-- Two requests in the other order: a mover's items but its request are as before (R178). -/
theorem eitherOrder_mover (s t : State) (k : MoverIndex) :
    ∃ request, (s.eitherOrder t).mover k = (t.mover k).requesting request := by
  suffices h : ((s.eitherOrder t).mover k).requesting none = (t.mover k).requesting none from ⟨_, eq_requesting h⟩
  unfold State.eitherOrder
  split
  · split
    · rfl
    · next g r _ _ _ _ b _ =>
      dsimp only
      split
      · show ((({ t with draws := t.draws + 1 }.setWaiting r none).setWaiting g.owner (some g.burst)).mover k).requesting none = _
        rw [setWaiting_items, setWaiting_items]
        rfl
      · rfl
  · rfl

/-- At a port that is freed and stays free nobody waits (R178). -/
theorem releasePort_idle {s : State} (h : s.releasePort.grant = none) :
    ∀ r ∈ s.releasePort.rotation, s.releasePort.waiting r = none := by
  rw [releasePort_eq] at h ⊢
  cases hfirst : s.portFree.firstWaiting with
  | none =>
    intro r hr
    have hnone := List.find?_eq_none.mp hfirst r hr
    simpa using hnone
  | some r =>
    obtain ⟨b, hb⟩ := Option.isSome_iff_exists.mp
      (List.find?_some (p := fun r => (s.portFree.waiting r).isSome) hfirst)
    rw [hfirst, Option.bind_some, hb] at h
    cases h

/-- In the event that leads from the free port of `u` to `v` only mover `m` can ask for a burst: with the port free nobody else
waits, and the mover has no request yet. -/
structure AsksAlone (m : MoverIndex) (u v : State) : Prop where
  grant : v.grant = u.grant
  others : u.grant = none → ∀ r ∈ v.rotation, r ≠ .mover m → v.waiting r = none
  request : (v.mover m).request = none

section Asks

variable {m : MoverIndex} {u v : State} (h : AsksAlone m u v)

include h

theorem AsksAlone.setMover {w : Mover} (hw : w.request = none) : AsksAlone m u (v.setMover m w) where
  grant := h.grant
  others hfree r hr hne := by
    cases r with
    | reader => exact h.others hfree .reader hr hne
    | mover k =>
      have hk : k ≠ m := fun e => hne (e ▸ rfl)
      exact (congrArg Mover.request (setMover_mover_ne v hk w)).trans (h.others hfree (.mover k) hr hne)
  request := (congrArg Mover.request (setMover_mover v m w)).trans hw

theorem AsksAlone.setLine (n : LineIndex) (l : PacingLine) : AsksAlone m u (v.setLine n l) where
  grant := h.grant
  others hfree r hr hne := by cases r <;> exact h.others hfree _ hr hne
  request := h.request

/-- A side that starts leaves the arbiter no choice: its first burst waits behind the one in progress, or is the only request. -/
theorem AsksAlone.launch (bursts : List Burst) : u.eitherOrder (v.launch m bursts) = v.launch m bursts := by
  by_cases hfree : u.grant = none
  · cases bursts with
    | nil => exact eitherOrder_of_free u (h.grant.trans hfree)
    | cons b bs =>
      have hasks := h.setMover (w := (v.mover m).queued bs) h.request
      rw [launch_free (h.grant.trans hfree)]
      refine eitherOrder_of_quiet u (firstWaiting_none fun r hr => ?_)
      by_cases hr' : r = .mover m
      · rw [hr']
        exact hasks.request
      · have hbefore : r ∈ v.rotation := by
          rcases List.mem_append.mp hr with hin | hin
          · exact List.mem_of_mem_erase hin
          · exact absurd (List.mem_singleton.mp hin) hr'
        have hnone := hasks.others hfree r hbefore hr'
        cases r <;> exact hnone
  · exact eitherOrder_of_busy hfree _

theorem AsksAlone.startUnit : u.eitherOrder (v.startUnit m) = v.startUnit m := by
  cases ht : (v.mover m).transfer with
  | none =>
    have hnothing : v.startUnit m = v := by
      unfold State.startUnit
      dsimp only
      rw [ht]
    rw [hnothing]
    exact eitherOrder_of_sameGrant h.grant
  | some t =>
    rw [startUnit_eq ht]
    exact (h.setMover (w := (v.mover m).beginUnit (startSide t)) h.request).launch _

theorem AsksAlone.admitBurst (n : LineIndex) : u.eitherOrder (v.admitBurst n m) = v.admitBurst n m :=
  ((h.setLine n (v.line n).admitting).setMover (w := (v.mover m).inState .run) h.request).startUnit

end Asks

/-! ### The burst end of a line -/

section BurstEnd

variable {s : State} {n : LineIndex} {m : MoverIndex}

/-- In DEMAND with PREQn active the next burst is admitted at once (R103). -/
theorem burstContinues_admits (hmode : (s.line n).latchedMode = .demand) (hrequest : (s.line n).request = true) :
    s.burstContinues n m = (s.setLine n (s.line n).burstOver).admitBurst n m := by
  have hover : ((s.setLine n (s.line n).burstOver).line n) = (s.line n).burstOver := setLine_line s n _
  unfold State.burstContinues
  dsimp only
  rw [hover]
  simp only [PacingLine.burstOver, PacingLine.loadTimer, PacingLine.inState, hmode, hrequest]

/-- In the other rows the line waits: for PREQn to go inactive where it is active, else for it to go active (R103, R104). -/
theorem burstContinues_waits (h : ¬ ((s.line n).latchedMode = .demand ∧ (s.line n).request = true)) :
    s.burstContinues n m =
      (s.setLine n (s.line n).burstOver).waitIn n m (if (s.line n).request = true then .waitLow else .wait) := by
  have hover : ((s.setLine n (s.line n).burstOver).line n) = (s.line n).burstOver := setLine_line s n _
  unfold State.burstContinues
  dsimp only
  rw [hover]
  cases hmode : (s.line n).latchedMode <;> cases hrequest : (s.line n).request
  case demand.true => exact absurd ⟨hmode, hrequest⟩ h
  all_goals
    simp only [PacingLine.burstOver, PacingLine.loadTimer, PacingLine.inState, hmode, hrequest]
    rfl

end BurstEnd

end Sys2Proof.Machine
end

section
/-! The boundary of a unit (O32): what the last beat of a unit leads to, and the four ways on from there. -/

namespace Sys2Proof.Machine

open Sys2Proof.Safety

/-! ### A unit that completes -/

/-- The mover after its unit: the counts advanced by the whole unit (R81). -/
def State.unitCounted (s : State) (m : MoverIndex) (t : Entry) : Mover :=
  (s.mover m).counted (s.unitElements t (s.mover m).position)

section Decides

variable {s : State} {m : MoverIndex} {t : Entry} (ht : (s.mover m).transfer = some t)

include ht

/-- The last unit ends the transfer DONE (R81). -/
theorem unitComplete_done (hlast : s.unitCount t ≤ (s.mover m).position + 1) :
    s.unitComplete m = (s.setMover m (s.unitCounted m t)).endTransfer m .done none := by
  unfold State.unitComplete
  dsimp only
  rw [ht]
  exact if_pos hlast

variable (hmore : ¬ s.unitCount t ≤ (s.mover m).position + 1)

include hmore

/-- With the stop request set the transfer ends ABORTED (R105). -/
theorem unitComplete_aborted (hstop : (s.mover m).stop = true) :
    s.unitComplete m = (s.setMover m (s.unitCounted m t)).endTransfer m .aborted none := by
  unfold State.unitComplete
  dsimp only
  rw [ht]
  exact (if_neg hmore).trans (if_pos hstop)

variable (hstop : ¬ (s.mover m).stop = true)

include hstop

/-- An unpaced transfer goes on with its next unit (R86). -/
theorem unitComplete_unpaced (hline : t.line = none) :
    s.unitComplete m = (s.setMover m (s.unitCounted m t).advanced).startUnit m := by
  unfold State.unitComplete
  dsimp only
  rw [ht]
  refine ((if_neg hmore).trans (if_neg hstop)).trans ?_
  rw [hline, setMover_mover, setMover_setMover]
  rfl

variable {l : LineIndex} (hline : t.line = some l)

include hline

/-- With the end-seen latch of its line set the transfer ends SHORT (R105). -/
theorem unitComplete_short (hseen : (s.line l).endSeen = true) :
    s.unitComplete m = (s.setMover m (s.unitCounted m t)).endTransfer m .short none := by
  unfold State.unitComplete
  dsimp only
  rw [ht]
  refine ((if_neg hmore).trans (if_neg hstop)).trans ?_
  rw [hline]
  exact if_pos hseen

/-- A paced transfer that goes on reports its burst end to its line (R87, R103). -/
theorem unitComplete_paced (hseen : ¬ (s.line l).endSeen = true) :
    s.unitComplete m = (s.setMover m (s.unitCounted m t).advanced).burstContinues l m := by
  unfold State.unitComplete
  dsimp only
  rw [ht]
  refine ((if_neg hmore).trans (if_neg hstop)).trans ?_
  rw [hline]
  refine (if_neg hseen).trans ?_
  rw [setMover_mover, setMover_setMover]
  rfl

end Decides

/-! ### From the last beat to the boundary -/

/-- `v` is the state in which mover `m` completes the unit that it had in progress in `s`, `k` of its elements left out; `u` is the
state in which its burst has freed the port. -/
structure AtBoundary (s u v : State) (m : MoverIndex) (k : Nat) : Prop where
  mover : ∃ buffer side request,
    v.mover m = { s.mover m with buffer := buffer, side := side, matched := k, request := request }
  before : SameBeforeEnd m s v
  halted : v.dispatcher = s.dispatcher
  grant : v.grant = u.grant
  alone : (s.mover m).request = none → AsksAlone m u v ∧ heldBursts v m = []

/-- The state in which the last beat of a mover's burst has freed the port (R177). -/
def State.answeredFree (s : State) (m : MoverIndex) (write : Bool) (b : Beat) (data : Word) : State :=
  (s.setMover m ((s.mover m).answered write b data)).releasePort

section Boundary

variable {s : State} {m : MoverIndex} (write : Bool) (b : Beat) (data : Word)

theorem answeredFree_mover :
    (s.answeredFree m write b data).mover m =
      ((s.mover m).answered write b data).requesting ((s.answeredFree m write b data).mover m).request :=
  (releasePort_mover _ m).trans (by rw [setMover_mover]; rfl)

theorem answeredFree_surfaces : (s.answeredFree m write b data).surfaces = s.surfaces :=
  (releasePort_frame _).2.1

theorem answeredFree_boundary : AtBoundary s (s.answeredFree m write b data) (s.answeredFree m write b data) m
    (s.mover m).matched where
  mover := ⟨_, _, _, (answeredFree_mover write b data).trans (by rw [answered_items]; rfl)⟩
  before := (setMover_beforeEnd s m _).trans (releasePort_beforeEnd _ m)
  halted := by
    obtain ⟨_, _, _, _, _, h⟩ := releasePort_arbiterOnly (s.setMover m ((s.mover m).answered write b data))
    rw [State.answeredFree, h]
    rfl
  grant := rfl
  alone hrequest := by
    have hpending : pending (s.answeredFree m write b data) m = (s.mover m).request.toList :=
      (releasePort_pending _ m).2.1.trans (by rw [setMover_mover, answered_items])
    have hnone := List.append_eq_nil_iff.mp (hpending.trans (congrArg Option.toList hrequest))
    exact ⟨⟨rfl, fun hfree r hr _ => releasePort_idle hfree r hr, Option.toList_eq_nil_iff.mp hnone.2⟩, hnone.1⟩

/-- A read side with nothing to write is compared, and then its unit is complete (R80, R85). -/
theorem AtBoundary.compared {u v : State} {j : Nat} (h : AtBoundary s u v m j) (k : Nat) :
    AtBoundary s u (v.setMover m ((v.mover m).compared k)) m k where
  mover := by
    obtain ⟨buffer, _, request, hv⟩ := h.mover
    exact ⟨buffer, .write, request, (setMover_mover v m _).trans (by rw [hv]; rfl)⟩
  before := h.before.trans (setMover_beforeEnd v m _)
  halted := h.halted
  grant := h.grant
  alone hrequest := by
    obtain ⟨hasks, hheld⟩ := h.alone hrequest
    exact ⟨hasks.setMover hasks.request, hheld⟩

end Boundary

/-- A read side whose elements all match the key has nothing to write into a port: the unit is complete (R80, R85). -/
theorem startWrite_nothing {u : State} {m : MoverIndex} {t : Entry} {n : Nat} (ht : (u.mover m).transfer = some t)
    (hport : ∃ d ∈ t.dst, (u.surface d.surface).shape = some .port) (hsize : ElementSizeLegal (u.elementBytes t))
    (hwhole : (u.mover m).buffer.length = n * u.elementBytes t)
    (hmatch : ∀ el ∈ pieces (u.elementBytes t) n (u.mover m).buffer, MatchesKey u t el) :
    u.startWrite m = (u.setMover m ((u.mover m).compared n)).unitComplete m := by
  have hpos : 0 < u.elementBytes t := by rcases hsize with h | h | h <;> omega
  have hskips : ∀ el ∈ pieces (u.elementBytes t) n (u.mover m).buffer, u.skips t el = true :=
    fun el hel => (skips_iff u t el).mpr (hmatch el hel)
  have hcount : (pieces (u.elementBytes t) n (u.mover m).buffer).countP (u.skips t) = n := by
    rw [List.countP_eq_length.mpr hskips]
    simp [pieces]
  have hplan (v : Mover) :
      (u.setMover m v).writePlan t (u.mover m).position (pieces (u.elementBytes t) n (u.mover m).buffer) = [] := by
    obtain ⟨d, hd, hshape⟩ := hport
    have hisport : ((u.setMover m v).surface d.surface).isPort = true := by
      rw [surface_setMover, Surface.isPort, hshape]
      rfl
    have hleft : (pieces (u.elementBytes t) n (u.mover m).buffer).filter (fun el => !(u.setMover m v).skips t el) = [] :=
      List.filter_eq_nil_iff.mpr fun el hel => by
        have hel : (u.setMover m v).skips t el = true := hskips el hel
        simp [hel]
    unfold State.writePlan
    rw [Option.mem_def.mp hd]
    dsimp only
    rw [if_pos hisport, hleft]
    simp [portBursts]
  unfold State.startWrite
  dsimp only
  rw [ht]
  dsimp only
  rw [elementsOf_eq_pieces hpos hwhole, hcount, hplan]

/-- The write side is answered in full: the unit is complete (R81). -/
theorem continueSide_write {s : State} {m : MoverIndex} (hbursts : (s.mover m).bursts = []) (hside : (s.mover m).side = .write) :
    s.continueSide m = s.unitComplete m := by
  unfold State.continueSide
  dsimp only
  rw [hbursts, hside]

/-- The read side is answered in full: the write side begins (R77). -/
theorem continueSide_read {s : State} {m : MoverIndex} (hbursts : (s.mover m).bursts = []) (hside : (s.mover m).side = .read) :
    s.continueSide m = s.startWrite m := by
  unfold State.continueSide
  dsimp only
  rw [hbursts, hside]

/-- Which elements match the key turns on the surfaces (R37). -/
theorem matchesKey_congr {s u : State} (h : u.surfaces = s.surfaces) (t : Entry) (element : List Byte) :
    MatchesKey u t element ↔ MatchesKey s t element := by
  simp only [MatchesKey, surface_congr h, (SameSurfaces.of_eq h t).elementBytes]

/-- Where the last beat of a burst ends the unit, the mover completes it in the event (R81, R85). -/
theorem answerBeat_boundary {s : State} {data : Word} {g : Grant} {b : Beat} {m : MoverIndex} {t : Entry} {k : Nat}
    (hgrant : s.grant = some g) (hlive : g.live = true) (howner : g.owner = .mover m) (hbeats : g.burst.beats = [b])
    (ht : (s.mover m).transfer = some t) (hbursts : (s.mover m).bursts = []) (hends : EndsUnit s m t g.burst.write b data k) :
    ∃ u v, s.answerBeat data = u.eitherOrder (v.unitComplete m) ∧ AtBoundary s u v m k := by
  have hboundary := answeredFree_boundary (s := s) (m := m) g.burst.write b data
  have hmover := answeredFree_mover (s := s) (m := m) g.burst.write b data
  rw [answered_items] at hmover
  have hsurfaces := answeredFree_surfaces (s := s) (m := m) g.burst.write b data
  have hanswer : s.answerBeat data = (s.answeredFree m g.burst.write b data).eitherOrder
      ((s.answeredFree m g.burst.write b data).continueSide m) := answerBeat_last data hgrant hbeats hlive howner
  generalize s.answeredFree m g.burst.write b data = u at *
  have hclear : (u.mover m).bursts = [] := by rw [hmover]; exact hbursts
  rcases hends with ⟨hwrite, hside, rfl⟩ | ⟨hread, hside, ⟨d, hd, hport⟩, hsize, hwhole, hmatch, rfl⟩
  · have hcontinue : u.continueSide m = u.unitComplete m := continueSide_write hclear (by rw [hmover]; exact hside)
    exact ⟨u, u, by rw [hanswer, hcontinue], hboundary⟩
  · have hcontinue : u.continueSide m = u.startWrite m := continueSide_read hclear (by rw [hmover]; exact hside)
    have hbuffer : (u.mover m).buffer = (s.mover m).buffer ++ laneBytes b.enables data := by
      rw [hmover, hread]
      rfl
    have hbytes : u.elementBytes t = s.elementBytes t := (SameSurfaces.of_eq hsurfaces t).elementBytes
    have hnothing := startWrite_nothing (u := u) (m := m) (t := t) (n := s.unitElements t (s.mover m).position)
      (by rw [hmover]; exact ht) ⟨d, hd, by rw [surface_congr hsurfaces]; exact hport⟩ (hbytes ▸ hsize)
      (by rw [hbuffer, hbytes]; exact hwhole) (by
        rw [hbuffer, hbytes]
        exact fun el hel => (matchesKey_congr hsurfaces t el).mpr (hmatch el hel))
    exact ⟨u, _, by rw [hanswer, hcontinue, hnothing], hboundary.compared _⟩

end Sys2Proof.Machine
end

section
/-! The four ways on from the boundary of a unit, and O32. -/

namespace Sys2Proof.Machine

open Sys2Proof.Safety

/-- The bursts that a unit starts with turn on the surfaces (R74). -/
theorem startPlan_congr {s u : State} (h : u.surfaces = s.surfaces) (t : Entry) (p : Nat) :
    startPlan u t p = startPlan s t p := by
  have hsurface : u.surface = s.surface := funext (surface_congr h)
  have hskips : u.skips t = s.skips t := funext fun el => by
    rw [skips_eq_decide, skips_eq_decide, decide_eq_decide.mpr (matchesKey_congr h t el)]
  have hruns : u.unitRuns t p = s.unitRuns t p := by
    simp only [State.unitRuns, State.portSurface, State.elementBytes, hsurface]
  have hcells : u.cellsOf t = s.cellsOf t := funext fun el => by
    simp only [State.cellsOf, hskips]
  simp only [startPlan, State.readPlan, State.writePlan, State.unitElements, hcells, hsurface, hskips, hruns,
    (SameSurfaces.of_eq h t).elementBytes]

/-- A burst end changes the mover's unit in progress at most (R103). -/
theorem burstContinues_mover (s : State) (n : LineIndex) (m : MoverIndex) :
    SameCounts (s.mover m) ((s.burstContinues n m).mover m) := by
  by_cases hrow : (s.line n).latchedMode = .demand ∧ (s.line n).request = true
  · rw [burstContinues_admits hrow.1 hrow.2]
    exact (admitBurst_mover _ n m).1
  · rw [burstContinues_waits hrow, waitIn_mover]
    exact ⟨_, _, _, _, _, _, rfl⟩

theorem answerBeat_hostSide (s : State) (data : Word) : HostSideKept s (s.answerBeat data) :=
  hostSide_of_engine (answerBeat_engineOnly s data) ((settings_steps s).event.answerBeat False.elim data (.refl s))

section Ways

variable {s u v : State} {m : MoverIndex} {t : Entry} {k : Nat} (h : AtBoundary s u v m k)
  (ht : (s.mover m).transfer = some t)

/-! ### At the boundary -/

include h

/-- The decision at the boundary rests on what the transfer had before its last beat. -/
theorem AtBoundary.decides :
    (v.mover m).transfer = (s.mover m).transfer ∧ v.unitCount t = s.unitCount t
      ∧ (v.mover m).position = (s.mover m).position ∧ (v.mover m).stop = (s.mover m).stop := by
  obtain ⟨_, _, _, hv⟩ := h.mover
  rw [hv]
  exact ⟨rfl, (SameSurfaces.of_eq h.before.surfaces t).unitCount, rfl, rfl⟩

/-- The counts advance by the whole unit (R81). -/
theorem AtBoundary.counted : ∃ buffer side request, v.unitCounted m t =
    { s.mover m with
      buffer := buffer, side := side, matched := k, request := request
      moved := (s.mover m).moved + (s.unitElements t (s.mover m).position - k)
      skipped := (s.mover m).skipped + k } := by
  obtain ⟨buffer, side, request, hv⟩ := h.mover
  refine ⟨buffer, side, request, ?_⟩
  rw [State.unitCounted, hv, (SameSurfaces.of_eq h.before.surfaces t).unitElements]
  rfl

include ht

/-- An end at the boundary: the record with the counts of the whole unit, or the wait in POST (R81, R92). -/
theorem AtBoundary.ends (hquiet : QuietEnd s m) (o : Outcome) :
    Ends s (u.eitherOrder ((v.setMover m (v.unitCounted m t)).endTransfer m o none)) m t o
      ((s.mover m).moved + (s.unitElements t (s.mover m).position - k)) ((s.mover m).skipped + k) none := by
  obtain ⟨_, hnothing, hothers⟩ := hquiet
  obtain ⟨_, _, _, hcounted⟩ := h.counted (t := t)
  have hmover := setMover_mover v m (v.unitCounted m t)
  rw [hcounted] at hmover
  obtain ⟨hends, hgrant⟩ := (h.before.trans (setMover_beforeEnd v m (v.unitCounted m t))).endTransfer (t := t) o none
    (by rw [hcounted, hmover]; exact ht)
    (by rw [setMover_dispatcher, setMover_queue, h.halted, h.before.queue]; exact hnothing) hothers
  rw [eitherOrder_of_sameGrant (s := u) (hgrant.trans h.grant)]
  rw [hcounted] at hends ⊢
  rwa [hmover] at hends

omit ht

/-- The state in which the mover stands at its next unit (R86). -/
def State.nextUnit (v : State) (m : MoverIndex) (t : Entry) : State :=
  v.setMover m (v.unitCounted m t).advanced

theorem AtBoundary.next_mover : ∃ buffer side request, (v.nextUnit m t).mover m =
    { s.mover m with
      buffer := buffer, side := side, matched := k, request := request
      position := (s.mover m).position + 1
      moved := (s.mover m).moved + (s.unitElements t (s.mover m).position - k)
      skipped := (s.mover m).skipped + k } := by
  obtain ⟨buffer, side, request, hcounted⟩ := h.counted (t := t)
  exact ⟨buffer, side, request, (setMover_mover v m _).trans (by rw [hcounted]; rfl)⟩

/-- With no request of its own before, the mover asks alone, and has nothing in progress. -/
theorem AtBoundary.next_alone (hrequest : (s.mover m).request = none) :
    AsksAlone m u (v.nextUnit m t) ∧ heldBursts (v.nextUnit m t) m = [] := by
  obtain ⟨hasks, hheld⟩ := h.alone hrequest
  exact ⟨hasks.setMover hasks.request, hheld⟩

include ht

/-- What a transfer that goes on has and leaves, whatever its line does: counts and position advanced, nothing posted, no other
line touched (R81, R86). -/
theorem AtBoundary.goes_on {x : State} (hcounts : SameCounts ((v.nextUnit m t).mover m) (x.mover m))
    (hport : PortOnly (v.nextUnit m t) x) (hlines : ∀ l, t.line ≠ some l → x.line l = (v.nextUnit m t).line l) :
    ((u.eitherOrder x).mover m).position = (s.mover m).position + 1
      ∧ ((u.eitherOrder x).mover m).moved = (s.mover m).moved + (s.unitElements t (s.mover m).position - k)
      ∧ ((u.eitherOrder x).mover m).skipped = (s.mover m).skipped + k
      ∧ ((u.eitherOrder x).mover m).transfer = some t
      ∧ (u.eitherOrder x).completions = s.completions ∧ (u.eitherOrder x).queue = s.queue
      ∧ (u.eitherOrder x).surfaces = s.surfaces
      ∧ ∀ l : LineIndex, t.line ≠ some l → (u.eitherOrder x).line l = s.line l := by
  obtain ⟨_, _, _, hnext⟩ := h.next_mover (t := t)
  obtain ⟨_, _, _, _, _, _, hx⟩ := hcounts
  obtain ⟨_, hmover⟩ := eitherOrder_mover u x m
  rw [hx, hnext] at hmover
  obtain ⟨_, _, _, _, hport⟩ := hport
  obtain ⟨_, _, _, _, _, harbiter⟩ := eitherOrder_arbiterOnly u x
  have item {α : Type} (f : Mover → α) := congrArg f hmover
  refine ⟨item Mover.position, item Mover.moved, item Mover.skipped, (item Mover.transfer).trans ht, ?_, ?_, ?_,
    fun l hl => ?_⟩
  · rw [harbiter, hport]
    exact h.before.completions
  · rw [harbiter, hport]
    exact h.before.queue
  · rw [harbiter, hport]
    exact h.before.surfaces
  · rw [harbiter]
    exact (hlines l hl).trans (line_congr h.before.lines l)

/-! ### The next unit of an unpaced transfer -/

/-- An unpaced transfer starts its next unit: its state stays, and the bursts of the unit are requested (R74, R86). -/
theorem AtBoundary.starts :
    ((u.eitherOrder ((v.nextUnit m t).startUnit m)).mover m).state = (s.mover m).state
      ∧ ((u.eitherOrder ((v.nextUnit m t).startUnit m)).mover m).side = startSide t
      ∧ ((s.mover m).request = none →
        outstanding (u.eitherOrder ((v.nextUnit m t).startUnit m)) m = startPlan s t ((s.mover m).position + 1)) := by
  obtain ⟨_, _, _, hnext⟩ := h.next_mover (t := t)
  have htransfer : ((v.nextUnit m t).mover m).transfer = some t := by rw [hnext]; exact ht
  obtain ⟨_, _, hstart⟩ := startUnit_begins htransfer
  obtain ⟨_, hmover⟩ := eitherOrder_mover u ((v.nextUnit m t).startUnit m) m
  rw [hstart, hnext] at hmover
  have item {α : Type} (f : Mover → α) := congrArg f hmover
  refine ⟨item Mover.state, item Mover.side, fun hrequest => ?_⟩
  obtain ⟨hasks, hheld⟩ := h.next_alone (t := t) hrequest
  rw [hasks.startUnit, startUnit_outstanding htransfer hheld hasks.request, hnext]
  exact startPlan_congr h.before.surfaces t _

/-! ### The burst end of a paced transfer -/

/-- The line admits the next burst at once: BURST again with one more pulse, the timer stopped at its load, the mover in RUN with
the bursts of its unit requested (R102, R103). -/
theorem AtBoundary.admits {l : LineIndex} (hmode : (s.line l).latchedMode = .demand) (hlevel : (s.line l).request = true) :
    ((u.eitherOrder ((v.nextUnit m t).burstContinues l m)).mover m).state = .run
      ∧ (u.eitherOrder ((v.nextUnit m t).burstContinues l m)).line l =
        { s.line l with
          state := .burst, timerRunning := false, timerCount := (s.line l).latchedTimeout
          pulses := (s.line l).pulses + 1 }
      ∧ ((s.mover m).request = none →
        outstanding (u.eitherOrder ((v.nextUnit m t).burstContinues l m)) m = startPlan s t ((s.mover m).position + 1)) := by
  obtain ⟨_, _, _, hnext⟩ := h.next_mover (t := t)
  have hline : (v.nextUnit m t).line l = s.line l := line_congr h.before.lines l
  have htransfer : ((v.nextUnit m t).mover m).transfer = some t := by rw [hnext]; exact ht
  rw [burstContinues_admits (by rw [hline]; exact hmode) (by rw [hline]; exact hlevel), hline]
  generalize hx : (v.nextUnit m t).setLine l (s.line l).burstOver = x
  have hxline : x.line l = (s.line l).burstOver := by rw [← hx]; exact setLine_line _ l _
  have hxmover : x.mover m = (v.nextUnit m t).mover m := by rw [← hx]; rfl
  obtain ⟨_, hmover⟩ := eitherOrder_mover u (x.admitBurst l m) m
  obtain ⟨_, _, _, _, _, harbiter⟩ := eitherOrder_arbiterOnly u (x.admitBurst l m)
  refine ⟨?_, ?_, fun hrequest => ?_⟩
  · rw [hmover]
    exact (admitBurst_mover x l m).2
  · rw [harbiter]
    refine (admitBurst_line x m l).trans ?_
    rw [hxline]
    rfl
  · obtain ⟨hasks, hheld⟩ := h.next_alone (t := t) hrequest
    have hxasks : AsksAlone m u x := hx ▸ hasks.setLine l _
    have hxheld : heldBursts x m = [] := hx ▸ hheld
    rw [hxasks.admitBurst, admitBurst_outstanding l (hxmover ▸ htransfer) hxheld hxasks.request, hxmover, hnext,
      startPlan_congr (s := s) (by rw [← hx]; exact h.before.surfaces)]

omit ht

/-- The line waits: the mover in PACE with nothing requested, the timer loaded (R103, R107). -/
theorem AtBoundary.waits (hbursts : (s.mover m).bursts = []) {l : LineIndex}
    (hrow : ¬ ((s.line l).latchedMode = .demand ∧ (s.line l).request = true)) :
    ((u.eitherOrder ((v.nextUnit m t).burstContinues l m)).mover m).state = .pace
      ∧ (u.eitherOrder ((v.nextUnit m t).burstContinues l m)).line l =
        { s.line l with
          state := if (s.line l).request = true then .waitLow else .wait
          timerCount := (s.line l).latchedTimeout, timerRunning := (s.line l).latchedTimeout != 0 }
      ∧ ((s.mover m).request = none → outstanding (u.eitherOrder ((v.nextUnit m t).burstContinues l m)) m = []) := by
  obtain ⟨_, _, request, hnext⟩ := h.next_mover (t := t)
  have hline : (v.nextUnit m t).line l = s.line l := line_congr h.before.lines l
  rw [burstContinues_waits (by rw [hline]; exact hrow), hline,
    eitherOrder_of_sameGrant (s := u) (by rw [waitIn_grant, setLine_grant]; exact h.grant)]
  have hmover := waitIn_mover ((v.nextUnit m t).setLine l (s.line l).burstOver) l m
    (if (s.line l).request = true then .waitLow else .wait)
  rw [mover_setLine, hnext] at hmover
  refine ⟨congrArg Mover.state hmover, ?_, fun hrequest => ?_⟩
  · rw [waitIn_line, setLine_line]
    rfl
  · obtain ⟨hasks, hheld⟩ := h.next_alone (t := t) hrequest
    have hnone : request = none := (congrArg Mover.request hnext).symm.trans hasks.request
    rw [outstanding_eq, hmover, heldBursts_congr ((waitIn_grant ..).trans (setLine_grant ..)), hheld]
    simp [Mover.inState, hnone, hbursts]

end Ways

/-- Settles O32: the boundary reached, and the way on from there by the last unit, the stop request and the line. -/
theorem boundaryDecidesOutcome : Obligations.BoundaryDecidesOutcome := by
  intro s data g b m t k hquiet hgrant hlive howner hbeats ht hbursts hends position n moved skipped last stopped ended
  have hhost : HostSideKept s (s.answerBeat data) := answerBeat_hostSide s data
  obtain ⟨u, v, hanswer, hat⟩ := answerBeat_boundary hgrant hlive howner hbeats ht hbursts hends
  obtain ⟨htransfer, hcount, hposition, hstop⟩ := hat.decides (t := t)
  have hseen (l : LineIndex) : (v.line l).endSeen = (s.line l).endSeen := by rw [line_congr hat.before.lines]
  rw [exec_beatAnswered data hquiet.1, hanswer]
  rw [hanswer] at hhost
  have htv := htransfer.trans ht
  have hlastv : v.unitCount t ≤ (v.mover m).position + 1 ↔ last := by rw [hcount, hposition]
  have hstopv : (v.mover m).stop = true ↔ stopped := by rw [hstop]
  refine ⟨fun hlast => ⟨_, rfl, ?done⟩, fun hmore hstopped => ⟨_, rfl, ?aborted⟩,
    fun hmore hgo hended => ⟨_, rfl, ?short⟩, fun hmore hgo hopen => ⟨_, rfl, ?goesOn⟩⟩
  case done =>
    rw [unitComplete_done htv (hlastv.mpr hlast)]
    exact hat.ends ht hquiet .done
  case aborted =>
    rw [unitComplete_aborted htv (mt hlastv.mp hmore) (hstopv.mpr hstopped)]
    exact hat.ends ht hquiet .aborted
  case short =>
    obtain ⟨l, hl, hlatch⟩ := hended
    rw [unitComplete_short htv (mt hlastv.mp hmore) (mt hstopv.mp hgo) hl ((hseen l).trans hlatch)]
    exact hat.ends ht hquiet .short
  case goesOn =>
    cases hl : t.line with
    | none =>
      have hway : v.unitComplete m = (v.nextUnit m t).startUnit m :=
        unitComplete_unpaced htv (mt hlastv.mp hmore) (mt hstopv.mp hgo) hl
      rw [hway] at hhost ⊢
      obtain ⟨hpos, hmoved, hskipped, hheld, hrecords, hqueue, hsurfaces, hlines⟩ := hat.goes_on ht
        (startUnit_mover (v.nextUnit m t) m).1 (startUnit_portOnly _ m) fun l _ => line_congr (startUnit_lines _ m) l
      rw [hl] at hlines
      exact ⟨hpos, hmoved, hskipped, hheld, hrecords, hqueue, hsurfaces, hlines, fun _ => hat.starts ht, nofun, nofun, hhost⟩
    | some l =>
      have hway : v.unitComplete m = (v.nextUnit m t).burstContinues l m :=
        unitComplete_paced htv (mt hlastv.mp hmore) (mt hstopv.mp hgo) hl fun h => hopen ⟨l, hl, (hseen l).symm.trans h⟩
      have hbound : ((v.nextUnit m t).mover m).transfer.bind Entry.line = some l := by
        obtain ⟨_, _, _, hnext⟩ := hat.next_mover (t := t)
        rw [hnext]
        exact (congrArg (Option.bind · Entry.line) ht).trans hl
      rw [hway] at hhost ⊢
      obtain ⟨hpos, hmoved, hskipped, hheld, hrecords, hqueue, hsurfaces, hlines⟩ := hat.goes_on ht
        (burstContinues_mover (v.nextUnit m t) l m) (burstContinues_portOnly _ m l)
        fun k hk => (burstContinues_work _ m hbound).line k (by rw [hbound, ← hl]; exact hk)
      rw [hl] at hlines
      refine ⟨hpos, hmoved, hskipped, hheld, hrecords, hqueue, hsurfaces, hlines, nofun, ?_, ?_, hhost⟩
      · intro l' hl' hmode hlevel
        obtain rfl : l = l' := Option.some.inj hl'
        exact hat.admits ht hmode hlevel
      · intro l' hl' hrow
        obtain rfl : l = l' := Option.some.inj hl'
        exact hat.waits hbursts hrow

end Sys2Proof.Machine
end

section
/-! The pacing lines by state: a burst end by the four rows of R103 (O38), and end edges, expiries and ticks (O39). -/

namespace Sys2Proof.Machine

open Sys2Proof.Safety

/-! ### A burst end after which the transfer continues -/

/-- Of two writes to one line the second stands. -/
@[simp] theorem setLine_setLine (s : State) (n : LineIndex) (v w : PacingLine) :
    (s.setLine n v).setLine n w = s.setLine n w := by
  simp [State.setLine]

/-- A line that waits after an update, with its mover in PACE: one write to each. -/
theorem setLine_waitIn (s : State) (n : LineIndex) (m : MoverIndex) (v : PacingLine) (st : LineState) :
    (s.setLine n v).waitIn n m st = (s.setLine n (v.inState st)).setMover m ((s.mover m).inState .pace) := by
  unfold State.waitIn
  dsimp only
  rw [setLine_line, setLine_setLine, setLine_mover]

/-- Settles O38: in DEMAND with PREQn active the burst end is an admission on the loaded timer, and in the other rows a wait. -/
theorem burstEndByMode : Obligations.BurstEndByMode := by
  intro s n m
  refine ⟨fun hmode hrequest => ?_, fun hrow => ?_⟩
  · rw [burstContinues_admits hmode hrequest]
    refine ⟨?_, (admitBurst_mover _ n m).2⟩
    rw [admitBurst_line, setLine_line]
    rfl
  · rw [burstContinues_waits hrow, setLine_waitIn]
    rfl

/-! ### End edges -/

section Edges

variable {s : State} {n : LineIndex}

theorem exec_pendFall (hreset : s.inReset = false) : exec (.pendFall n) s = .next (s.endEdge n) :=
  congrArg Host.Outcome.next (unlessReset_high hreset _)

theorem endEdge_idle (h : (s.line n).state = .idle) : s.endEdge n = s := by
  unfold State.endEdge
  rw [h]

theorem endEdge_burst (h : (s.line n).state = .burst) :
    s.endEdge n = s.setLine n { s.line n with endSeen := true } := by
  unfold State.endEdge
  rw [h]

/-- A line that waits has its transfer ended by the edge (R109). -/
theorem endEdge_waiting (h : (s.line n).state = .wait ∨ (s.line n).state = .waitLow) :
    s.endEdge n = s.endFromLine n .short := by
  unfold State.endEdge
  rcases h with h | h <;> rw [h]

end Edges

/-! ### Expiries -/

section Expiries

variable {s : State} {n : LineIndex}

theorem exec_timerExpiry (hreset : s.inReset = false) : exec (.timerExpiry n) s = .next (s.timerExpires n) :=
  congrArg Host.Outcome.next (unlessReset_high hreset _)

theorem PacingLine.expired_iff (l : PacingLine) :
    l.expired = true ↔ (l.state = .wait ∨ l.state = .waitLow) ∧ l.timerRunning = true ∧ l.timerCount = 0 := by
  simp [PacingLine.expired, and_assoc]

theorem timerExpires_due (h : (s.line n).expired = true) : s.timerExpires n = s.endFromLine n .timeout :=
  if_pos h

/-- An expiry of a timer that is stopped or has ticks left is none (log 5, log 15). -/
theorem timerExpires_notDue (h : (s.line n).timerRunning = false ∨ (s.line n).timerCount ≠ 0) :
    s.timerExpires n = s := by
  refine if_neg fun hexpired => ?_
  obtain ⟨-, hrunning, hcount⟩ := (PacingLine.expired_iff _).mp hexpired
  rcases h with hstopped | hleft
  · exact absurd (hstopped.symm.trans hrunning) (by decide)
  · exact hleft hcount

end Expiries

/-! ### The end that a line brings -/

/-- A line ends the transfer of its bound mover; the end asks for no burst, so the arbiter has no choice (R109, R121, R178). -/
theorem endFromLine_ends {s : State} {n : LineIndex} {m : MoverIndex} {t : Entry} (hquiet : QuietEnd s m)
    (hbound : (s.line n).bound = some m) (ht : (s.mover m).transfer = some t) (o : Outcome) :
    Ends s (s.endFromLine n o) m t o (s.mover m).moved (s.mover m).skipped none := by
  obtain ⟨-, hempty, hothers⟩ := hquiet
  obtain ⟨hends, hgrant⟩ := endTransfer_ends o none ht hempty hothers
  unfold State.endFromLine
  rw [hbound]
  dsimp only
  rw [eitherOrder_of_sameGrant hgrant]
  exact hends

/-! ### Ticks -/

theorem exec_tick {s : State} (hreset : s.inReset = false) : exec .tick s = .next s.timeTick :=
  congrArg Host.Outcome.next (unlessReset_high hreset _)

/-- A tick at one line, by the count it leaves (R107). -/
theorem PacingLine.tick_eq (l : PacingLine) :
    l.tick = { l with
      timerCount := if l.timerRunning = true ∧ l.timerCount ≠ 0 then l.timerCount - 1 else l.timerCount } := by
  unfold PacingLine.tick
  by_cases h : l.timerRunning = true ∧ l.timerCount ≠ 0
  · rw [if_pos h, if_pos (by simpa using h)]
  · rw [if_neg h, if_neg (by simpa using h)]

theorem timeTick_running {s : State} (h : s.divider ≠ none) :
    s.timeTick = { s with divider := some s.timeBase, lines := Vector.ofFn fun k => (s.line k).tick } := by
  obtain ⟨_, hdivider⟩ := Option.ne_none_iff_exists'.mp h
  unfold State.timeTick
  rw [hdivider]

/-- Settles O39: end edges by line state, expiries by whether they are due, and a tick line by line. -/
theorem lineTimersAndEnds : Obligations.LineTimersAndEnds := by
  intro s n hreset
  rw [exec_pendFall hreset, exec_timerExpiry hreset, exec_tick hreset]
  refine ⟨fun hidle => ?idle, fun hburst => ?burst, fun m t hquiet hwaiting hbound ht _ => ⟨⟨_, rfl, ?short⟩,
    fun hrunning hcount => ⟨_, rfl, ?timeout⟩⟩, fun hnotDue => ?notDue, fun hdivider => ?tick⟩
  case idle => rw [endEdge_idle hidle]
  case burst => rw [endEdge_burst hburst]
  case short =>
    rw [endEdge_waiting hwaiting]
    exact endFromLine_ends hquiet hbound ht .short
  case timeout =>
    rw [timerExpires_due ((PacingLine.expired_iff _).mpr ⟨hwaiting, hrunning, hcount⟩)]
    exact endFromLine_ends hquiet hbound ht .timeout
  case notDue => rw [timerExpires_notDue hnotDue]
  case tick =>
    rw [timeTick_running hdivider]
    simp only [PacingLine.tick_eq]

end Sys2Proof.Machine
end

section
/-! The completion queue and the causes through every command (O41, O43), and INTn (O44). But for a pop, a write to INT_CAUSE and
the resets, a command adds records at the tail and sets flags, and does nothing else to either. -/

namespace Sys2Proof.Machine

open Sys2Proof.Safety

/-! ### Records at the tail -/

/-- The records of `t` are `records` and new ones behind them, numbered on from `next`; the counter has advanced by their
number (R120, R121). -/
def Extends (records : List Completion) (next : BitVec 16) (t : State) : Prop :=
  ∃ new : List Completion, t.completions = records ++ new ∧ t.sequence = next + BitVec.ofNat 16 new.length
    ∧ new.map Completion.sequence = (List.range new.length).map fun j => next + BitVec.ofNat 16 j

theorem Extends.of_eq {s t : State} (hc : t.completions = s.completions) (hn : t.sequence = s.sequence) :
    Extends s.completions s.sequence t :=
  ⟨[], by simp [hc], by simp [hn], rfl⟩

theorem Extends.trans {records : List Completion} {next : BitVec 16} {t u : State} (h : Extends records next t)
    (k : Extends t.completions t.sequence u) : Extends records next u := by
  obtain ⟨new, hc, hn, hnumbers⟩ := h
  obtain ⟨more, kc, kn, knumbers⟩ := k
  have run_on (j : Nat) : t.sequence + BitVec.ofNat 16 j = next + BitVec.ofNat 16 (new.length + j) := by
    rw [hn, BitVec.ofNat_add, BitVec.add_assoc]
  refine ⟨new ++ more, by rw [kc, hc, List.append_assoc], by rw [kn, run_on, List.length_append], ?_⟩
  simp only [List.map_append, hnumbers, knumbers, run_on, List.length_append, List.range_add, List.map_map]
  rfl

/-- One record, with the number that the counter had (R120). -/
theorem Extends.one {s t : State} {r : Completion} (hc : t.completions = s.completions ++ [{ r with sequence := s.sequence }])
    (hn : t.sequence = s.sequence + 1) : Extends s.completions s.sequence t :=
  ⟨_, hc, hn, by simp⟩

/-- Records have come at the tail and flags have been set, and neither has gone (R121, R126). -/
structure Notifies (s t : State) : Prop where
  records : Extends s.completions s.sequence t
  raised : ∀ k, s.causeSet k = true → t.causeSet k = true

theorem Notifies.of_eq {s t : State} (hc : t.completions = s.completions) (hn : t.sequence = s.sequence)
    (hk : t.causes = s.causes) : Notifies s t :=
  ⟨.of_eq hc hn, fun k => by rw [State.causeSet, State.causeSet, hk]; exact id⟩

theorem Notifies.refl (s : State) : Notifies s s := .of_eq rfl rfl rfl

theorem Notifies.trans {s t u : State} (h : Notifies s t) (k : Notifies t u) : Notifies s u :=
  ⟨h.records.trans k.records, fun c hc => k.raised c (h.raised c hc)⟩

theorem Notifies.of_port {s t : State} (h : PortOnly s t) : Notifies s t := by
  obtain ⟨_, _, _, _, rfl⟩ := h
  exact .of_eq rfl rfl rfl

theorem Notifies.of_arbiter {s t : State} (h : ArbiterOnly s t) : Notifies s t := by
  obtain ⟨_, _, _, _, _, rfl⟩ := h
  exact .of_eq rfl rfl rfl

/-! ### The engine's own work -/

section Engine

variable (s : State) (m : MoverIndex)

theorem raiseIf_notifies (b : Bool) (c : Cause) : Notifies s (s.raiseIf b c) := by
  refine ⟨?_, fun k => raiseIf_raised b c⟩
  obtain ⟨_, h⟩ := raiseIf_causes_only s b c
  rw [h]
  exact .of_eq rfl rfl

theorem raise_notifies (c : Cause) : Notifies s (s.raise c) := raiseIf_notifies s true c

theorem appendRecord_notifies (r : Completion) : Notifies s (s.appendRecord r) := by
  refine ⟨?_, fun k => appendRecord_raised r⟩
  obtain ⟨_, h⟩ := appendRecord_only s r
  rw [h]
  exact .one rfl rfl

theorem returnRefs_notifies (e : Entry) : Notifies s (s.returnRefs e) := by
  refine ⟨?_, fun k hk => ?_⟩
  · obtain ⟨_, _, _, h⟩ := returnRefs_refsOnly s e
    rw [h]
    exact .of_eq rfl rfl
  · rw [State.returnRefs, foldl_returnRef_causeSet, hk, Bool.true_or]

theorem serveMover_notifies : Notifies s (s.serveMover m) := by
  unfold State.serveMover
  dsimp only
  split
  · split
    · exact ((appendRecord_notifies s _).trans (.of_port (setMover_portOnly _ m _))).trans (returnRefs_notifies _ _)
    · exact .refl s
  · exact .refl s

theorem report_notifies (e : Entry) (o : Outcome) : Notifies s (s.report e o) := by
  obtain ⟨-, hrecords, hsequence, -, -, -⟩ := report_frame s e o
  exact ⟨.one hrecords hsequence, fun _ => report_raised e o⟩

/-- An issue posts no record (R66). -/
theorem issue_records (e : Entry) : (s.issue e m).completions = s.completions ∧ (s.issue e m).sequence = s.sequence := by
  obtain ⟨_, _, _, _, hport⟩ := issue_portOnly s m e
  obtain ⟨_, hhead⟩ := removeHead_only s
  rw [hport, hhead]
  exact ⟨rfl, rfl⟩

theorem issue_notifies (e : Entry) : Notifies s (s.issue e m) := by
  obtain ⟨hrecords, hsequence⟩ := issue_records s m e
  exact ⟨.of_eq hrecords hsequence, fun _ => issue_raised e m⟩

theorem examine_notifies : Notifies s s.examine :=
  examineHead_keeps (Notifies s) (fun u e _ o h _ _ _ _ => h.trans (report_notifies u e o))
    (fun u e _ m h _ _ _ => h.trans (issue_notifies u m e)) (fun _ _ _ h _ _ _ => h.trans (.of_eq rfl rfl rfl)) _ s (.refl s)

theorem examineIf_notifies (b : Bool) : Notifies s (s.examineIf b) := by
  cases b
  · exact .refl s
  · exact examine_notifies s

theorem settle_notifies : Notifies s s.settle :=
  ((serveMover_notifies s 0).trans (serveMover_notifies _ 1)).trans (examine_notifies _)

theorem eitherOrder_notifies (t : State) : Notifies t (s.eitherOrder t) := .of_arbiter (eitherOrder_arbiterOnly s t)

theorem releasePort_notifies : Notifies s s.releasePort := .of_arbiter (releasePort_arbiterOnly s)

theorem endTransfer_notifies (o : Outcome) (f : Option FaultItem) : Notifies s (s.endTransfer m o f) :=
  (Notifies.of_port (finish_portOnly s m o f)).trans (settle_notifies _)

theorem unitComplete_notifies : Notifies s (s.unitComplete m) := by
  unfold State.unitComplete
  dsimp only
  split
  · exact .refl s
  · rename_i t _
    have hcounted := setMover_portOnly s m ((s.mover m).counted (s.unitElements t (s.mover m).position))
    have hnext (v : Mover) := hcounted.trans (setMover_portOnly _ m v)
    have ends (o : Outcome) := (Notifies.of_port hcounted).trans (endTransfer_notifies _ m o none)
    split
    · exact ends .done
    · split
      · exact ends .aborted
      · split
        · exact .of_port ((hnext _).trans (startUnit_portOnly _ m))
        · split
          · exact ends .short
          · exact .of_port ((hnext _).trans (burstContinues_portOnly _ m _))

theorem startWrite_notifies : Notifies s (s.startWrite m) := by
  unfold State.startWrite
  dsimp only
  split
  · exact .refl s
  · rename_i t _
    have hcompared := setMover_portOnly s m
      ((s.mover m).compared ((elementsOf (s.elementBytes t) (s.mover m).buffer).countP (s.skips t)))
    split
    · exact (Notifies.of_port hcompared).trans (unitComplete_notifies _ m)
    · exact .of_port (hcompared.trans (launch_portOnly _ m _))

theorem continueSide_notifies : Notifies s (s.continueSide m) := by
  unfold State.continueSide
  dsimp only
  split
  · exact .of_port (launch_portOnly s m _)
  · split
    · exact startWrite_notifies s m
    · exact unitComplete_notifies s m

theorem captureFault_notifies (r : FaultRecord) : Notifies s (s.captureFault r) := by
  unfold State.captureFault
  split
  · exact .refl s
  · refine Notifies.trans ?_ (raise_notifies _ .halt)
    exact .of_eq rfl rfl rfl

theorem moverFault_notifies (x : FaultItem) : Notifies s (s.moverFault m x) := by
  unfold State.moverFault
  split
  · exact .refl s
  · exact (captureFault_notifies s _).trans (endTransfer_notifies _ m _ _)

theorem endFromLine_notifies (n : LineIndex) (o : Outcome) : Notifies s (s.endFromLine n o) := by
  unfold State.endFromLine
  split
  · exact .refl s
  · exact (endTransfer_notifies s _ o none).trans (eitherOrder_notifies s _)

end Engine

/-! ### Acceptance, the list reader and the beats -/

section Events

variable (s : State)

theorem setReader_notifies (r : ListReader) : Notifies s { s with reader := r } := .of_eq rfl rfl rfl

theorem endList_notifies (why : EndReason) (r : Option Reason) : Notifies s (s.endList why r) :=
  (setReader_notifies s _).trans (raise_notifies _ .list)

theorem enterFetch_notifies (a : Word) : Notifies s (s.enterFetch a) := setReader_notifies s _

theorem enqueue_notifies (e : Entry) : Notifies s (s.enqueue e) := by
  obtain ⟨_, h⟩ := enqueue_only s e
  rw [h]
  exact .of_eq rfl rfl rfl

theorem postStaged_notifies : Notifies s s.postStaged := by
  unfold State.postStaged
  dsimp only
  split
  · exact .of_eq rfl rfl rfl
  · rename_i e _
    refine ((enqueue_notifies s e).trans ?_).trans (examineIf_notifies _ _)
    exact .of_eq rfl rfl rfl

theorem present_notifies (record : Vector Word 8) : Notifies s (s.present record) := by
  unfold State.present
  split
  · exact setReader_notifies s _
  · exact endList_notifies s _ _
  · rename_i e _
    have hcounted := (enqueue_notifies s e).trans (setReader_notifies (s.enqueue e)
      { (s.enqueue e).reader with count := (s.enqueue e).reader.count + 1 })
    dsimp only
    split
    · exact (hcounted.trans (endList_notifies _ _ _)).trans (examineIf_notifies _ _)
    · exact ((hcounted.trans (enterFetch_notifies _ _)).trans (examineIf_notifies _ _)).trans
        (.of_arbiter (requestBurst_arbiterOnly _ _ _))

theorem presentAgain_notifies : Notifies s s.presentAgain := by
  unfold State.presentAgain
  split
  · split
    · exact .refl s
    · exact (present_notifies s _).trans (eitherOrder_notifies s _)
  · exact .refl s

theorem completeBurst_notifies (g : Grant) : Notifies s (s.completeBurst g) := by
  unfold State.completeBurst
  dsimp only
  split
  · refine ((releasePort_notifies s).trans ?_).trans (eitherOrder_notifies _ _)
    cases g.owner with
    | mover m => exact continueSide_notifies _ m
    | reader => exact present_notifies _ _
  · exact releasePort_notifies s

theorem answerBeat_notifies (data : Word) : Notifies s (s.answerBeat data) := by
  unfold State.answerBeat
  split
  · exact .refl s
  · rename_i g _
    split
    · exact .refl s
    · have htaken (b : Beat) : Notifies s (if g.live then s.takeData g.owner g.burst.write b data else s) := by
        split
        · exact .of_arbiter (takeData_arbiterOnly s _ _ _ _)
        · exact .refl s
      dsimp only
      split
      · exact (htaken _).trans (completeBurst_notifies _ g)
      · exact (htaken _).trans (.of_eq rfl rfl rfl)

theorem failBeat_notifies : Notifies s s.failBeat := by
  unfold State.failBeat
  split
  · exact .refl s
  · rename_i g _
    split
    · exact .refl s
    · dsimp only
      split
      · refine (releasePort_notifies s).trans ?_
        cases g.owner with
        | mover m => exact moverFault_notifies _ m _
        | reader => exact endList_notifies _ _ _
      · exact releasePort_notifies s

/-- A pop takes the head, and what follows are postings (R122, R125). -/
theorem popCompletion_notifies : Notifies { s with completions := s.completions.tail } s.popCompletion := by
  unfold State.popCompletion
  split
  · rename_i hempty
    exact .of_eq (by simp [hempty]) rfl rfl
  · rename_i hrecords
    rw [hrecords]
    dsimp only
    split
    · exact .refl _
    · exact (settle_notifies _).trans (eitherOrder_notifies s _)

end Events

/-! ### The control commands -/

section Control

variable (s : State)

theorem result_notifies (c : ResultCode) (v : Nat) : Notifies s (s.result c v) := .of_eq rfl rfl rfl

theorem abortByTag_notifies (tag : Tag) : Notifies s (s.abortByTag tag) := by
  have hmarked : Notifies s { s with queue := s.queue.map (Entry.mark tag) } := .of_eq rfl rfl rfl
  have hstopped := hmarked.trans (.of_port ((stopMover_portOnly _ 0 tag).trans (stopMover_portOnly _ 1 tag)))
  unfold State.abortByTag
  dsimp only
  refine Notifies.trans ?_ (result_notifies _ _ _)
  split
  · exact hstopped
  · exact (hstopped.trans (settle_notifies _)).trans (eitherOrder_notifies s _)

theorem resumeDispatch_notifies : Notifies s s.resumeDispatch := by
  have hrunning : Notifies s s.running := .of_eq rfl rfl rfl
  unfold State.resumeDispatch
  split
  · exact ((hrunning.trans (examine_notifies _)).trans (eitherOrder_notifies s _)).trans (result_notifies _ _ _)
  · exact result_notifies s _ _

theorem stopList_notifies : Notifies s s.stopList := by
  unfold State.stopList
  split
  · exact .refl s
  all_goals exact (endList_notifies s _ _).trans (.of_arbiter (disown_arbiterOnly _ _))

theorem flushQueue_notifies : Notifies s s.flushQueue := by
  have hreturned (q : List Entry) : ∀ u : State, Notifies u (q.foldl State.returnRefs u) := by
    induction q with
    | nil => exact Notifies.refl
    | cons e q ih => exact fun u => (returnRefs_notifies u e).trans (ih _)
  have hflushed : Notifies s (flushed s) := (hreturned s.queue s).trans (.of_eq rfl rfl rfl)
  exact ((hflushed.trans (stopList_notifies _)).trans (raiseIf_notifies _ (s.freeSlots < s.lowWater) .lowWater)).trans
    (result_notifies _ _ _)

theorem startList_notifies : Notifies s s.startList := by
  unfold State.startList
  split
  · exact result_notifies s _ _
  · split
    · exact result_notifies s _ _
    · dsimp only
      exact (((setReader_notifies s _).trans (enterFetch_notifies _ _)).trans
        (.of_arbiter (requestBurst_arbiterOnly _ _ _))).trans (result_notifies _ _ _)

theorem stopListCommand_notifies : Notifies s s.stopListCommand := by
  unfold State.stopListCommand
  split
  · exact result_notifies s _ _
  all_goals exact (stopList_notifies s).trans (result_notifies _ _ _)

theorem defineSurface_notifies (k : BitVec 8) : Notifies s (s.defineSurface k) := by
  unfold State.defineSurface
  dsimp only
  repeat' split
  all_goals exact .of_eq rfl rfl rfl

theorem releaseSurface_notifies (k : BitVec 8) : Notifies s (s.releaseSurface k) := by
  unfold State.releaseSurface
  dsimp only
  repeat' split
  all_goals exact .of_eq rfl rfl rfl

theorem writePlain_notifies (offset : Offset) (v : Word) : Notifies s (s.writePlain offset v) := by
  unfold State.writePlain
  dsimp only
  repeat' split
  all_goals exact .of_eq rfl rfl rfl

end Control

/-! ### Pins and ticks -/

section Pins

variable (s : State) (n : LineIndex)

theorem requestRises_notifies : Notifies s (s.requestRises n) := by
  have hlevel := setLine_portOnly s n { s.line n with request := true }
  unfold State.requestRises
  dsimp only
  split
  · exact .of_port (hlevel.trans (admit_portOnly _ _ n))
  · exact .of_port hlevel

theorem requestFalls_notifies : Notifies s (s.requestFalls n) := by
  have hlevel := setLine_portOnly s n { s.line n with request := false }
  unfold State.requestFalls
  dsimp only
  split
  · exact .of_port (hlevel.trans (setLine_portOnly _ n _))
  · exact .of_port hlevel

theorem endEdge_notifies : Notifies s (s.endEdge n) := by
  unfold State.endEdge
  split
  · exact .refl s
  · exact .of_port (setLine_portOnly s n _)
  all_goals exact endFromLine_notifies s n _

theorem timerExpires_notifies : Notifies s (s.timerExpires n) := by
  unfold State.timerExpires
  split
  · exact endFromLine_notifies s n _
  · exact .refl s

theorem timeTick_notifies : Notifies s s.timeTick := by
  unfold State.timeTick
  split
  · exact .refl s
  · exact .of_eq rfl rfl rfl

end Pins

/-! ### Every command -/

/-- Every command but a pop, a write to INT_CAUSE and the resets. -/
theorem exec_notifies {i : Instr} {s t : State} (hw : i.wellFormed = true) (hpop : i ≠ .completionPop)
    (hcause : ∀ value, i ≠ .intCauseWrite value) (hengine : i ≠ .engineReset) (hfull : i ≠ .fullReset)
    (he : exec i s = .next t) : Notifies s t := by
  have event {u : State} (hu : Notifies s u) : Notifies s (s.unlessReset u) :=
    unlessReset_keeps (P := Notifies s) (.refl s) hu
  cases i <;> cases next_inj he
  case define k => exact event (defineSurface_notifies s k)
  case release k => exact event (releaseSurface_notifies s k)
  case resume => exact event (resumeDispatch_notifies s)
  case flush => exact event (flushQueue_notifies s)
  case abortTag tag => exact event (abortByTag_notifies s tag)
  case listStart => exact event (startList_notifies s)
  case listStop => exact event (stopListCommand_notifies s)
  case engineReset => exact absurd rfl hengine
  case unknownCommand code operand =>
    rw [control_unknown hw]
    exact event (result_notifies s _ _)
  case post => exact event (postStaged_notifies s)
  case completionPop => exact absurd rfl hpop
  case intCauseWrite v => exact absurd rfl (hcause v)
  case intEnableWrite v => exact event (.of_eq rfl rfl rfl)
  case freedSetWrite v => exact event (.of_eq rfl rfl rfl)
  case statusWrite v =>
    refine event ?_
    unfold State.writeStatus
    split <;> exact .of_eq rfl rfl rfl
  case timeBaseWrite v => exact event (.of_eq rfl rfl rfl)
  case registerWrite offset v =>
    rw [writeWord_plain (by simpa [Instr.wellFormed] using hw)]
    exact event (writePlain_notifies s _ _)
  case nonWordAccess access offset enables =>
    rw [if_neg (by simpa [Instr.wellFormed] using hw)]
    exact event (.of_eq rfl rfl rfl)
  case fullReset => exact absurd rfl hfull
  case resetRelease =>
    show Notifies s s.leaveReset
    unfold State.leaveReset
    split <;> exact .of_eq rfl rfl rfl
  case preqActive n =>
    split
    · exact .of_port (setLine_portOnly s n _)
    · exact requestRises_notifies s n
  case preqInactive n =>
    split
    · exact .of_port (setLine_portOnly s n _)
    · exact requestFalls_notifies s n
  case pendFall n => exact event (endEdge_notifies s n)
  case tick => exact event (timeTick_notifies s)
  case timerExpiry n => exact event (timerExpires_notifies s n)
  case beatAnswered data => exact event (answerBeat_notifies s data)
  case beatError => exact event (failBeat_notifies s)
  case waitSpacePresentation => exact event (presentAgain_notifies s)

/-- Settles O41: a pop extends the records without their head, and every other command but the resets the records as they
were. -/
theorem completionQueueKeepsOrder : Obligations.CompletionQueueKeepsOrder := by
  intro i s t hw he
  refine ⟨fun hi hreset => ?_, fun hengine hfull => ?_⟩
  · rcases hi with rfl | rfl <;> cases next_inj he
    · rw [unlessReset_high hreset]
      exact ⟨rfl, rfl⟩
    · exact ⟨rfl, rfl⟩
  · show Extends _ s.sequence t
    by_cases hpop : i = .completionPop
    · subst hpop
      cases next_inj he
      cases hreset : s.inReset with
      | true =>
        rw [unlessReset_low hreset, if_neg (by simp)]
        exact .of_eq rfl rfl
      | false =>
        rw [unlessReset_high hreset, if_pos (by simp)]
        exact (popCompletion_notifies s).records
    · rw [if_neg fun h => hpop h.1]
      by_cases hcause : ∃ value, i = .intCauseWrite value
      · obtain ⟨value, rfl⟩ := hcause
        cases next_inj he
        exact unlessReset_keeps (P := Extends s.completions s.sequence) (.of_eq rfl rfl) (.of_eq rfl rfl)
      · exact (exec_notifies hw hpop (fun value hi => hcause ⟨value, hi⟩) hengine hfull he).records

/-! ### The notification block's registers -/

theorem cause_bit_lt (k : Cause) : k.bit < 6 := by
  cases k <;> decide

/-- Every bit of the notification registers is that of a cause (Table 9-8). -/
theorem exists_cause_of_lt {i : Nat} (h : i < 6) : ∃ k : Cause, k.bit = i := by
  interval_cases i
  exacts [⟨.completion, rfl⟩, ⟨.signal, rfl⟩, ⟨.lowWater, rfl⟩, ⟨.halt, rfl⟩, ⟨.list, rfl⟩, ⟨.freed, rfl⟩]

/-- The low bits of a written word are the flags that it gives (Table 9-8). -/
theorem written_flag (value : Word) (k : Cause) : (value.extractLsb' 0 6).getLsbD k.bit = value.getLsbD k.bit := by
  simp [cause_bit_lt k]

theorem writeIntCause_causeSet (s : State) (value : Word) (k : Cause) :
    (s.writeIntCause value).causeSet k = (s.causeSet k && !value.getLsbD k.bit) := by
  rw [← written_flag value k]
  simp [State.writeIntCause, State.causeSet, cause_bit_lt k]

/-- INTn by its flags and enables (R127). -/
theorem intActive_iff (s : State) :
    s.intActive = true ↔ s.inReset = false ∧ ∃ k : Cause, s.causeSet k = true ∧ s.enables.getLsbD k.bit = true := by
  unfold State.intActive
  rw [Bool.and_eq_true, Bool.not_eq_true', bne_iff_ne]
  refine and_congr_right fun _ => ⟨fun hne => ?_, fun ⟨k, hset, henabled⟩ hzero => ?_⟩
  · obtain ⟨i, hi, hbit⟩ : ∃ i < 6, (s.causes &&& s.enables).getLsbD i = true := by
      by_contra hnone
      push Not at hnone
      refine hne (BitVec.eq_of_getLsbD_eq fun i hi => ?_)
      exact (Bool.eq_false_iff.mpr (hnone i hi)).trans BitVec.getLsbD_zero.symm
    obtain ⟨k, rfl⟩ := exists_cause_of_lt hi
    rw [BitVec.getLsbD_and, Bool.and_eq_true] at hbit
    exact ⟨k, hbit⟩
  · have hbit : (s.causes &&& s.enables).getLsbD k.bit = true := by
      rw [BitVec.getLsbD_and, Bool.and_eq_true]
      exact ⟨hset, henabled⟩
    rw [hzero] at hbit
    exact absurd hbit (by simp)

/-- Settles O43: the flags of a setting event and of the host's write, and no other command but the resets clears one. -/
theorem causesClearedByHostAlone : Obligations.CausesClearedByHostAlone := by
  refine ⟨fun s c k => ⟨raise_causeSet s c k, rfl⟩, fun s value hreset => ⟨_, congrArg _ (unlessReset_high hreset _),
    writeIntCause_causeSet s value⟩, fun s => place_setWidth (by omega) s.causes,
    fun i s t k hw hcause hengine hfull he hset => ?_⟩
  by_cases hpop : i = .completionPop
  · subst hpop
    cases next_inj he
    exact unlessReset_keeps (P := fun u => u.causeSet k = true) hset ((popCompletion_notifies s).raised k hset)
  · exact (exec_notifies hw hpop hcause hengine hfull he).raised k hset

/-- Settles O44. -/
theorem interruptFollowsEnables : Obligations.InterruptFollowsEnables := by
  refine ⟨intActive_iff, fun s value hreset => ⟨s.writeIntEnable value, congrArg _ (unlessReset_high hreset _), rfl,
    written_flag value, ?_, ?_⟩⟩
  · refine (place_setWidth (by omega) (value.extractLsb' 0 6)).trans (BitVec.eq_of_getLsbD_eq fun i hi => ?_)
    have hmask : (0x3F#32).getLsbD i = decide (i < 6) := by
      interval_cases i <;> rfl
    simp [hi, hmask, Bool.and_comm, -BitVec.getLsbD_eq_getElem]
  · rw [intActive_iff]
    simp only [show (s.writeIntEnable value).enables.getLsbD = (value.extractLsb' 0 6).getLsbD from rfl, written_flag]
    exact and_iff_right hreset

end Sys2Proof.Machine
end

section
/-! COMPLETION_POP (O40): the slot that a pop of a full completion queue frees is mover 0's, else mover 1's, else the
dispatcher's. The record posted fills the queue again, so there is one. -/

namespace Sys2Proof.Machine

open Sys2Proof.Safety

/-! ### The posters of a slot -/

/-- At a full completion queue an examination posts no record (R62, R122). -/
theorem examineHead_full (fuel : Nat) {s : State} (hfull : 32 ≤ s.completions.length) :
    (State.examineHead fuel s).completions = s.completions ∧ (State.examineHead fuel s).sequence = s.sequence := by
  refine examineHead_keeps (fun u => u.completions = s.completions ∧ u.sequence = s.sequence)
    (fun u e _ o hu _ _ _ hslot => ?_) (fun u e _ m hu _ _ _ => ?_) (fun _ _ _ hu _ _ _ => hu) fuel s ⟨rfl, rfl⟩
  · have hroom := (hasSlot_iff u).mp hslot
    rw [hu.1] at hroom
    exact absurd hroom (Nat.not_lt.mpr hfull)
  · obtain ⟨hrecords, hsequence⟩ := issue_records u m e
    exact ⟨hrecords.trans hu.1, hsequence.trans hu.2⟩

/-- From `s` to `u` the record has been posted, with the next sequence number, and no other (R120). -/
def PostsOne (s u : State) (r : Completion) : Prop :=
  u.completions = s.completions ++ [{ r with sequence := s.sequence }] ∧ u.sequence = s.sequence + 1

/-- A record that fills the completion queue is the last of its event. -/
theorem PostsOne.examineHead {s u : State} {r : Completion} (h : PostsOne s u r) (hlast : s.completions.length = 31)
    (fuel : Nat) : PostsOne s (State.examineHead fuel u) r := by
  obtain ⟨hrecords, hsequence⟩ := examineHead_full (s := u) fuel (by simp [h.1, hlast])
  exact ⟨hrecords.trans h.1, hsequence.trans h.2⟩

section Settle

variable {s : State} (hlast : s.completions.length = 31)

/-- With no mover in POST the event goes on to the head. -/
theorem settle_of_no_poster (hzero : (s.mover 0).state ≠ .post) (hone : (s.mover 1).state ≠ .post) : s.settle = s.examine := by
  refine settle_of_not_postable fun m ⟨hpost, _⟩ => ?_
  fin_cases m
  · exact hzero hpost
  · exact hone hpost

include hlast

/-- The last slot is that of the lowest-numbered mover in POST (R122). -/
theorem settle_posts_mover {m : MoverIndex} {t : Entry} {o : Outcome} (hstate : (s.mover m).state = .post)
    (ht : (s.mover m).transfer = some t) (ho : (s.mover m).outcome = some o) (hfirst : m = 1 → (s.mover 0).state ≠ .post) :
    PostsOne s s.settle (moverRecord m (s.mover m) t o) := by
  obtain ⟨hrecords, hsequence, -⟩ := posted_frame s m t o
  have hposted := serveMover_posted hstate ht ho (by omega)
  have hserved : (s.serveMover 0).serveMover 1 = s.posted m t o := by
    fin_cases m
    · refine (congrArg (State.serveMover · 1) hposted).trans (serveMover_of_not_postable fun ⟨_, _, _, hslot⟩ => ?_)
      have hroom := (hasSlot_iff _).mp hslot
      rw [hrecords, List.length_append, hlast] at hroom
      exact absurd hroom (by simp)
    · exact (congrArg (State.serveMover · 1) (serveMover_of_not_postable fun ⟨hpost, _⟩ => hfirst rfl hpost)).trans hposted
  unfold State.settle
  rw [hserved]
  exact PostsOne.examineHead ⟨hrecords, hsequence⟩ hlast _

/-- With no mover in POST the last slot is that of a head to be reported (R122). -/
theorem settle_posts_head {e : Entry} {q : List Entry} {o : Outcome} (hzero : (s.mover 0).state ≠ .post)
    (hone : (s.mover 1).state ≠ .post) (hd : s.dispatcher.halted = false) (hq : s.queue = e :: q)
    (ho : reportOf s e = some o) : PostsOne s s.settle (dispatcherRecord e o) := by
  obtain ⟨-, hrecords, hsequence, -⟩ := report_frame s e o
  rw [settle_of_no_poster hzero hone, examine_report hd hq (decision_of_report ho) (by omega)]
  exact PostsOne.examineHead ⟨hrecords, hsequence⟩ hlast _

end Settle

/-- Where the head is held for the reason that the dispatcher has, or the queue is empty and it has none, an examination leaves
all as it is (R57, R68). -/
theorem examine_unchanged {s : State} (hd : s.dispatcher.halted = false) (hslot : s.dispatcher.slotRequest = false)
    (hwait : (s.queue = [] ∧ s.dispatcher.waitReason = .none)
      ∨ ∃ (e : Entry) (q : List Entry), s.queue = e :: q ∧ holdOf s e = some s.dispatcher.waitReason) : s.examine = s := by
  have hsame : s.setWait s.dispatcher.waitReason false = s := by
    rw [← hslot]
    rfl
  rcases hwait with ⟨hqueue, hreason⟩ | ⟨e, q, hqueue, hhold⟩
  · rw [State.examine, examineHead_empty _ hd hqueue, ← hreason, hsame]
  · rw [examine_hold hd hqueue (decision_of_hold hhold), hsame]

/-! ### The pop -/

section Pop

variable {s : State} {r : Completion} {rest : List Completion}

theorem exec_completionPop (hreset : s.inReset = false) : exec .completionPop s = .next s.popCompletion :=
  congrArg _ (unlessReset_high hreset _)

theorem popCompletion_empty (h : s.completions = []) : s.popCompletion = { s with badAccess := true } := by
  unfold State.popCompletion
  rw [h]

variable (hrecords : s.completions = r :: rest)

include hrecords

theorem popCompletion_cons :
    s.popCompletion =
      if s.completions.length < 32 then { s with completions := rest }
      else s.eitherOrder (State.settle { s with completions := rest }) := by
  unfold State.popCompletion
  split
  · rename_i hempty
    exact absurd (hempty.symm.trans hrecords) nofun
  · rename_i hcons
    obtain rfl := (List.cons.inj (hrecords.symm.trans hcons)).2
    rfl

theorem popCompletion_full (hfull : s.completions.length = 32) :
    s.popCompletion = s.eitherOrder (State.settle { s with completions := rest }) :=
  (popCompletion_cons hrecords).trans (if_neg (Nat.not_lt.mpr hfull.ge))

/-- Where the events that follow the pop change nothing. -/
theorem popCompletion_alone (hfull : s.completions.length = 32) (hzero : (s.mover 0).state ≠ .post)
    (hone : (s.mover 1).state ≠ .post)
    (hexamine : State.examine { s with completions := rest } = { s with completions := rest }) :
    s.popCompletion = { s with completions := rest } := by
  have hsettle : State.settle { s with completions := rest } = { s with completions := rest } :=
    (settle_of_no_poster (s := { s with completions := rest }) hzero hone).trans hexamine
  rw [popCompletion_full hrecords hfull, hsettle]
  exact eitherOrder_of_sameGrant rfl

/-- A pop of a record leaves the host's registers (R125). -/
theorem popCompletion_hostSide : HostSideKept s s.popCompletion := by
  have hpop : EngineOnly s { s with completions := rest } := ⟨_, _, _, _, _, _, _, _, _, _, _, _, _, rfl⟩
  refine hostSide_of_engine ?_ ((settings_steps s).event.popCompletion (.refl s))
  rw [popCompletion_cons hrecords]
  split
  · exact hpop
  · exact (hpop.trans (settle_engineOnly _)).trans (eitherOrder_engineOnly s _)

/-- A pop whose slot goes to one poster. -/
theorem popCompletion_posts (hfull : s.completions.length = 32) {record : Completion}
    (h : PostsOne { s with completions := rest } (State.settle { s with completions := rest }) record) :
    s.popCompletion.completions = rest ++ [{ record with sequence := s.sequence }]
      ∧ s.popCompletion.sequence = s.sequence + 1 ∧ HostSideKept s s.popCompletion := by
  have hcalm := eitherOrder_calm (w := False) s (State.settle { s with completions := rest })
  refine ⟨?_, ?_, popCompletion_hostSide hrecords⟩ <;> rw [popCompletion_full hrecords hfull]
  · exact hcalm.completions.trans h.1
  · exact hcalm.sequence.trans h.2

end Pop

/-- Settles O40: below 32 records nobody waits for the slot, and at 32 the event is that of the first poster. -/
theorem popServesPosters : Obligations.PopServesPosters := by
  intro s hreset
  rw [exec_completionPop hreset]
  refine ⟨fun hempty => congrArg _ (popCompletion_empty hempty), fun r rest hrecords => ?_⟩
  have hload : SameLoad s { s with completions := rest } := .of_movers rfl
  have hlast (hfull : s.completions.length = 32) : rest.length = 31 := by
    rw [hrecords, List.length_cons] at hfull
    omega
  refine ⟨fun hroom => ?room, fun hfull hzero hone hd => ?halted, fun hfull hzero hone hd hslot hwait => ?held,
    fun m t o hfull hstate ht ho hfirst => ⟨_, rfl, ?mover⟩, fun e q o hfull hzero hone hd hq ho => ⟨_, rfl, ?dispatcher⟩⟩
  case room => rw [popCompletion_cons hrecords, if_pos hroom]
  case halted => rw [popCompletion_alone hrecords hfull hzero hone (examine_halted hd)]
  case held =>
    refine congrArg _ (popCompletion_alone hrecords hfull hzero hone (examine_unchanged hd hslot ?_))
    simpa only [hload.holdOf] using hwait
  case mover =>
    exact popCompletion_posts hrecords hfull
      (settle_posts_mover (s := { s with completions := rest }) (hlast hfull) hstate ht ho hfirst)
  case dispatcher =>
    exact popCompletion_posts hrecords hfull
      (settle_posts_head (s := { s with completions := rest }) (hlast hfull) hzero hone hd hq ((hload.reportOf e).trans ho))

end Sys2Proof.Machine
end

section
/-! LIST_START (O48) and LIST_STOP (O49): the exact next state of each, by the state of the list reader. -/

namespace Sys2Proof.Machine

/-! ### LIST_START -/

/-- Five low bits clear: the address of a record, a multiple of 32 (R136). -/
theorem and_31_eq_zero_iff (address : Word) : address &&& 31#32 = 0 ↔ address.toNat % 32 = 0 := by
  have hlow : (address &&& 31#32).toNat = address.toNat % 32 := by
    rw [BitVec.toNat_and]
    exact Nat.and_two_pow_sub_one_eq_mod _ 5
  rw [← hlow]
  exact BitVec.toNat_inj.symm

/-- The request for a record at a busy port waits (R137, R178). -/
theorem requestFetch_busy {s : State} (h : s.grant ≠ none) :
    s.requestFetch =
      s.setWaiting .reader (some {
        form := .incrementing, write := false, start := s.reader.current, length := 8
        beats := (List.range 8).map fun i =>
          { address := s.reader.current + BitVec.ofNat 32 (4 * i), enables := 15#4, bytes := [] } }) := by
  obtain ⟨g, hg⟩ := Option.ne_none_iff_exists'.mp h
  have hstart : ((fetchBeats s.reader.current).head?.map Beat.address).getD 0 = s.reader.current :=
    BitVec.add_zero s.reader.current
  unfold State.requestFetch State.requestBurst mkBurst
  rw [hg, hstart]
  rfl

/-- The device as a list starts: the reader in FETCH at LIST_ADDRESS, before the request for its first record (R136). -/
def listStarting (s : State) : State :=
  { s with reader := { s.reader with
    state := .fetch, current := s.listAddress, fetched := [], inHand := none, due := false
    count := 0, endReason := .none, refusal := none, stopAddress := 0 } }

section Start

variable {s : State}

theorem exec_listStart (hreset : s.inReset = false) : exec .listStart s = .next s.startList :=
  congrArg _ (unlessReset_high hreset _)

theorem startList_busy (h : s.reader.state ≠ .idle) : s.startList = s.result .busy s.reader.count.toNat :=
  if_pos h

variable (hidle : s.reader.state = .idle)

include hidle

theorem startList_misaligned (h : s.listAddress.toNat % 32 ≠ 0) : s.startList = s.result .badAddress 0 := by
  unfold State.startList
  rw [if_neg (not_not.mpr hidle), if_pos (mt (and_31_eq_zero_iff _).mp h)]

theorem startList_aligned (h : s.listAddress.toNat % 32 = 0) :
    s.startList = (listStarting s).requestFetch.result .ok 0 := by
  unfold State.startList
  rw [if_neg (not_not.mpr hidle), if_neg (not_not.mpr ((and_31_eq_zero_iff _).mpr h))]
  rfl

end Start

/-- Settles O48: by the reader's state and the alignment of LIST_ADDRESS, and for the request by the port. -/
theorem listStartByState : Obligations.ListStartByState := by
  intro s hreset fetch started
  rw [exec_listStart hreset]
  refine ⟨fun hbusy => ?busy, fun hidle hodd => ?misaligned, fun hidle haligned hfree => ?granted,
    fun hidle haligned hport => ?waiting⟩
  case busy => exact congrArg _ (startList_busy hbusy)
  case misaligned => exact congrArg _ (startList_misaligned hidle hodd)
  case granted =>
    rw [startList_aligned hidle haligned, requestFetch_free (s := listStarting s) hfree]
    rfl
  case waiting =>
    rw [startList_aligned hidle haligned, requestFetch_busy (s := listStarting s) hport]
    rfl

/-! ### LIST_STOP -/

section Stop

variable {s : State}

theorem exec_listStop (hreset : s.inReset = false) : exec .listStop s = .next s.stopListCommand :=
  congrArg _ (unlessReset_high hreset _)

theorem stopListCommand_idle (h : s.reader.state = .idle) : s.stopListCommand = s.result .notRunning 0 := by
  unfold State.stopListCommand
  rw [h]

theorem stopListCommand_running (h : s.reader.state ≠ .idle) :
    s.stopListCommand = s.stopList.result .ok s.reader.count.toNat := by
  unfold State.stopListCommand
  split
  case h_1 hidle => exact absurd hidle h
  all_goals rfl

end Stop

/-- Settles O49: an idle reader has nothing to stop, and a running list is stopped as FLUSH stops it. -/
theorem listStopByState : Obligations.ListStopByState := by
  intro s hreset
  rw [exec_listStop hreset]
  refine ⟨fun hidle => congrArg _ (stopListCommand_idle hidle), fun hrunning => ?_⟩
  rw [stopListCommand_running hrunning, stopList_eq]
  simp only [if_neg hrunning]
  rfl

end Sys2Proof.Machine
end

section
/-! The HALT cause (O45): one event of the engine sets it, the capture of a fault in RUN (R154, R155). Every other operation leaves
it, and leaves the dispatcher in RUN or HALT as it was. -/

namespace Sys2Proof.Machine

open Sys2Proof.Safety

/-! ### Neither HALT nor its cause changes -/

/-- The dispatcher is in RUN or HALT as before, and so is the HALT cause. -/
structure HaltKept (s t : State) : Prop where
  halted : t.dispatcher.halted = s.dispatcher.halted
  cause : t.causeSet .halt = s.causeSet .halt

theorem HaltKept.of_eq {s t : State} (hd : t.dispatcher.halted = s.dispatcher.halted) (hc : t.causes = s.causes) :
    HaltKept s t :=
  ⟨hd, by rw [State.causeSet, State.causeSet, hc]⟩

theorem HaltKept.refl (s : State) : HaltKept s s := ⟨rfl, rfl⟩

theorem HaltKept.trans {s t u : State} (h : HaltKept s t) (k : HaltKept t u) : HaltKept s u :=
  ⟨k.halted.trans h.halted, k.cause.trans h.cause⟩

theorem HaltKept.of_port {s t : State} (h : PortOnly s t) : HaltKept s t := by
  obtain ⟨_, _, _, _, rfl⟩ := h
  exact .of_eq rfl rfl

theorem HaltKept.of_arbiter {s t : State} (h : ArbiterOnly s t) : HaltKept s t := by
  obtain ⟨_, _, _, _, _, rfl⟩ := h
  exact .of_eq rfl rfl

/-- A calm operation leaves the dispatcher, so its causes alone are to be looked at. -/
theorem HaltKept.of_calm {s t : State} (h : Calm False s t) (hc : t.causeSet .halt = s.causeSet .halt) : HaltKept s t :=
  ⟨by rw [h.dispatcher], hc⟩

/-! ### Postings, examination and the end of a transfer -/

section Engine

variable (s : State) (m : MoverIndex)

theorem raiseIf_haltKept (b : Bool) {c : Cause} (hc : (Cause.halt == c) = false) : HaltKept s (s.raiseIf b c) :=
  .of_calm (raiseIf_calm s b c) (raiseIf_other s b hc)

theorem serveMover_haltKept : HaltKept s (s.serveMover m) :=
  ⟨by rw [serveMover_dispatcher], serveMover_haltCause s m⟩

theorem removeHead_haltCause : s.removeHead.causeSet .halt = s.causeSet .halt :=
  raiseIf_other { s with queue := s.queue.tail } _ rfl

theorem report_haltKept (e : Entry) (o : Outcome) : HaltKept s (s.report e o) where
  halted := by rw [(report_frame s e o).2.2.2.2.2]
  cause :=
    calc (s.report e o).causeSet .halt
        = (s.appendRecord (dispatcherRecord e o)).removeHead.causeSet .halt := returnRefs_causeSet_ne _ e rfl
      _ = (s.appendRecord (dispatcherRecord e o)).causeSet .halt := removeHead_haltCause _
      _ = s.causeSet .halt := (raiseIf_other _ _ rfl).trans (raiseIf_other _ _ rfl)

theorem issue_haltKept (e : Entry) : HaltKept s (s.issue e m) := by
  obtain ⟨-, -, hdispatcher, hcauses⟩ := issue_blocks (s := s) (e := e) (m := m)
  exact ⟨by rw [hdispatcher], (hcauses .halt).trans (removeHead_haltCause s)⟩

theorem examine_haltKept : HaltKept s s.examine :=
  examineHead_keeps (HaltKept s) (fun u e _ o h _ _ _ _ => h.trans (report_haltKept u e o))
    (fun u e _ m h _ _ _ => h.trans (issue_haltKept u m e)) (fun _ _ _ h _ _ _ => h.trans (.of_eq rfl rfl)) _ s (.refl s)

theorem examineIf_haltKept (b : Bool) : HaltKept s (s.examineIf b) := by
  cases b
  · exact .refl s
  · exact examine_haltKept s

theorem settle_haltKept : HaltKept s s.settle :=
  ((serveMover_haltKept s 0).trans (serveMover_haltKept _ 1)).trans (examine_haltKept _)

theorem eitherOrder_haltKept (t : State) : HaltKept t (s.eitherOrder t) := .of_arbiter (eitherOrder_arbiterOnly s t)

theorem endTransfer_haltKept (o : Outcome) (f : Option FaultItem) : HaltKept s (s.endTransfer m o f) :=
  (HaltKept.of_port (finish_portOnly s m o f)).trans (settle_haltKept _)

theorem unitComplete_haltKept : HaltKept s (s.unitComplete m) := by
  unfold State.unitComplete
  dsimp only
  split
  · exact .refl s
  · rename_i t _
    have hcounted := setMover_portOnly s m ((s.mover m).counted (s.unitElements t (s.mover m).position))
    have hnext (v : Mover) := hcounted.trans (setMover_portOnly _ m v)
    have ends (o : Outcome) := (HaltKept.of_port hcounted).trans (endTransfer_haltKept _ m o none)
    split
    · exact ends .done
    · split
      · exact ends .aborted
      · split
        · exact .of_port ((hnext _).trans (startUnit_portOnly _ m))
        · split
          · exact ends .short
          · exact .of_port ((hnext _).trans (burstContinues_portOnly _ m _))

theorem startWrite_haltKept : HaltKept s (s.startWrite m) := by
  unfold State.startWrite
  dsimp only
  split
  · exact .refl s
  · rename_i t _
    have hcompared := setMover_portOnly s m
      ((s.mover m).compared ((elementsOf (s.elementBytes t) (s.mover m).buffer).countP (s.skips t)))
    split
    · exact (HaltKept.of_port hcompared).trans (unitComplete_haltKept _ m)
    · exact .of_port (hcompared.trans (launch_portOnly _ m _))

theorem continueSide_haltKept : HaltKept s (s.continueSide m) := by
  unfold State.continueSide
  dsimp only
  split
  · exact .of_port (launch_portOnly s m _)
  · split
    · exact startWrite_haltKept s m
    · exact unitComplete_haltKept s m

theorem endFromLine_haltKept (n : LineIndex) (o : Outcome) : HaltKept s (s.endFromLine n o) := by
  unfold State.endFromLine
  split
  · exact .refl s
  · exact (endTransfer_haltKept s _ o none).trans (eitherOrder_haltKept s _)

end Engine

/-! ### Acceptance, the list reader and the beats -/

section Events

variable (s : State)

theorem endList_haltKept (why : EndReason) (r : Option Reason) : HaltKept s (s.endList why r) :=
  .of_calm (endList_calm s why r) (raiseIf_other { s with reader := s.reader.over why r } true rfl)

theorem enterFetch_haltKept (a : Word) : HaltKept s (s.enterFetch a) := .of_eq rfl rfl

theorem enqueue_haltKept (e : Entry) : HaltKept s (s.enqueue e) := by
  obtain ⟨_, h⟩ := enqueue_only s e
  rw [h]
  exact .of_eq rfl rfl

theorem postStaged_haltKept : HaltKept s s.postStaged := by
  unfold State.postStaged
  dsimp only
  split
  · exact .of_eq rfl rfl
  · rename_i e _
    refine ((enqueue_haltKept s e).trans ?_).trans (examineIf_haltKept _ _)
    exact .of_eq rfl rfl

theorem present_haltKept (record : Vector Word 8) : HaltKept s (s.present record) := by
  unfold State.present
  split
  · exact .of_eq rfl rfl
  · exact endList_haltKept s _ _
  · rename_i e _
    have hcounted : HaltKept s { s.enqueue e with
        reader := { (s.enqueue e).reader with count := (s.enqueue e).reader.count + 1 } } :=
      (enqueue_haltKept s e).trans (.of_eq rfl rfl)
    dsimp only
    split
    · exact (hcounted.trans (endList_haltKept _ _ _)).trans (examineIf_haltKept _ _)
    · exact ((hcounted.trans (enterFetch_haltKept _ _)).trans (examineIf_haltKept _ _)).trans
        (.of_arbiter (requestBurst_arbiterOnly _ _ _))

theorem presentAgain_haltKept : HaltKept s s.presentAgain := by
  unfold State.presentAgain
  split
  · split
    · exact .refl s
    · exact (present_haltKept s _).trans (eitherOrder_haltKept s _)
  · exact .refl s

theorem releasePort_haltKept : HaltKept s s.releasePort := .of_arbiter (releasePort_arbiterOnly s)

theorem completeBurst_haltKept (g : Grant) : HaltKept s (s.completeBurst g) := by
  unfold State.completeBurst
  dsimp only
  split
  · refine ((releasePort_haltKept s).trans ?_).trans (eitherOrder_haltKept _ _)
    cases g.owner with
    | mover m => exact continueSide_haltKept _ m
    | reader => exact present_haltKept _ _
  · exact releasePort_haltKept s

theorem answerBeat_haltKept (data : Word) : HaltKept s (s.answerBeat data) := by
  unfold State.answerBeat
  split
  · exact .refl s
  · rename_i g _
    split
    · exact .refl s
    · have htaken (b : Beat) : HaltKept s (if g.live then s.takeData g.owner g.burst.write b data else s) := by
        split
        · exact .of_arbiter (takeData_arbiterOnly s _ _ _ _)
        · exact .refl s
      dsimp only
      split
      · exact (htaken _).trans (completeBurst_haltKept _ g)
      · exact (htaken _).trans (.of_eq rfl rfl)

theorem popCompletion_haltKept : HaltKept s s.popCompletion := by
  unfold State.popCompletion
  split
  · exact .of_eq rfl rfl
  · rename_i rest _
    have htaken : HaltKept s { s with completions := rest } := .of_eq rfl rfl
    dsimp only
    split
    · exact htaken
    · exact (htaken.trans (settle_haltKept _)).trans (eitherOrder_haltKept s _)

theorem requestRises_haltKept (n : LineIndex) : HaltKept s (s.requestRises n) := by
  have hlevel := setLine_portOnly s n { s.line n with request := true }
  unfold State.requestRises
  dsimp only
  split
  · exact .of_port (hlevel.trans (admit_portOnly _ _ n))
  · exact .of_port hlevel

theorem endEdge_haltKept (n : LineIndex) : HaltKept s (s.endEdge n) := by
  unfold State.endEdge
  split
  · exact .refl s
  · exact .of_port (setLine_portOnly s n _)
  all_goals exact endFromLine_haltKept s n _

theorem timerExpires_haltKept (n : LineIndex) : HaltKept s (s.timerExpires n) := by
  unfold State.timerExpires
  split
  · exact endFromLine_haltKept s n _
  · exact .refl s

end Events

/-! ### The control commands -/

section Control

variable (s : State)

theorem result_haltKept (c : ResultCode) (v : Nat) : HaltKept s (s.result c v) := .of_eq rfl rfl

theorem abortByTag_haltKept (tag : Tag) : HaltKept s (s.abortByTag tag) := by
  have hmarked : HaltKept s { s with queue := s.queue.map (Entry.mark tag) } := .of_eq rfl rfl
  have hstopped := hmarked.trans (.of_port ((stopMover_portOnly _ 0 tag).trans (stopMover_portOnly _ 1 tag)))
  unfold State.abortByTag
  dsimp only
  refine HaltKept.trans ?_ (result_haltKept _ _ _)
  split
  · exact hstopped
  · exact (hstopped.trans (settle_haltKept _)).trans (eitherOrder_haltKept s _)

/-- FLUSH leaves HALT and its cause: its references raise FREED, its list LIST and its free slots LOW_WATER (R155, R159). -/
theorem flushQueue_haltKept : HaltKept s s.flushQueue := by
  have hflushed : HaltKept s (flushed s) := by
    obtain ⟨_, _, _, h⟩ := flushed_only s
    refine ⟨by rw [h], ?_⟩
    show (s.queue.foldl State.returnRefs s).causeSet .halt = _
    rw [foldl_returnRefs, foldl_returnRef_causeSet]
    exact Bool.or_false _
  have hlist : HaltKept (flushed s) (flushed s).stopList :=
    .of_calm (stopList_calm _) ((stopList_causeSet _ _).trans (Bool.or_false _))
  exact ((hflushed.trans hlist).trans (raiseIf_haltKept _ _ rfl)).trans (result_haltKept _ _ _)

theorem startList_haltKept : HaltKept s s.startList := by
  refine .of_calm (startList_calm s) ?_
  unfold State.startList
  split
  · rfl
  · split
    · rfl
    · exact (HaltKept.of_arbiter (requestBurst_arbiterOnly (State.enterFetch _ _) _ _)).cause

theorem stopListCommand_haltKept : HaltKept s s.stopListCommand := by
  refine .of_calm (stopListCommand_calm s) ?_
  unfold State.stopListCommand
  split
  · rfl
  all_goals exact (stopList_causeSet s .halt).trans (Bool.or_false _)

theorem defineSurface_haltKept (k : BitVec 8) : HaltKept s (s.defineSurface k) := by
  unfold State.defineSurface
  dsimp only
  repeat' split
  all_goals exact .of_eq rfl rfl

theorem releaseSurface_haltKept (k : BitVec 8) : HaltKept s (s.releaseSurface k) := by
  unfold State.releaseSurface
  dsimp only
  repeat' split
  all_goals exact .of_eq rfl rfl

theorem writePlain_haltKept (offset : Offset) (v : Word) : HaltKept s (s.writePlain offset v) := by
  unfold State.writePlain
  dsimp only
  repeat' split
  all_goals exact .of_eq rfl rfl

theorem timeTick_haltKept : HaltKept s s.timeTick := by
  unfold State.timeTick
  split
  · exact .refl s
  · exact .of_eq rfl rfl

end Control

/-! ### Where HALT is entered and left -/

/-- The HALT cause after an event: set before it, or the dispatcher has passed from RUN to HALT in it (R155). -/
def HaltTracked (s t : State) : Prop :=
  t.causeSet .halt = (s.causeSet .halt || (!s.dispatcher.halted && t.dispatcher.halted))

theorem HaltKept.tracked {s t : State} (h : HaltKept s t) : HaltTracked s t := by
  unfold HaltTracked
  rw [h.halted, h.cause, Bool.not_and_self, Bool.or_false]

theorem HaltTracked.after {s t u : State} (h : HaltKept s t) (k : HaltTracked t u) : HaltTracked s u := by
  unfold HaltTracked at *
  rw [k, h.halted, h.cause]

theorem HaltTracked.before {s t u : State} (h : HaltTracked s t) (k : HaltKept t u) : HaltTracked s u := by
  unfold HaltTracked at *
  rw [k.cause, k.halted, h]

/-- The capture of a fault enters HALT with its cause, or finds HALT (R154, R155). -/
theorem captureFault_tracked (s : State) (r : FaultRecord) : HaltTracked s (s.captureFault r) := by
  cases h : s.dispatcher.halted with
  | true =>
    rw [captureFault_halt r h]
    exact (HaltKept.refl s).tracked
  | false =>
    rw [captureFault_run r h]
    unfold HaltTracked
    rw [raise_causeSet, h]
    rfl

theorem moverFault_tracked (s : State) (m : MoverIndex) (x : FaultItem) : HaltTracked s (s.moverFault m x) := by
  unfold State.moverFault
  split
  · exact (HaltKept.refl s).tracked
  · exact (captureFault_tracked s _).before (endTransfer_haltKept _ m _ _)

/-- An error response enters HALT where it falls on a mover's burst in RUN, and nowhere else (R154). -/
theorem failBeat_tracked (s : State) : HaltTracked s s.failBeat := by
  unfold State.failBeat
  split
  · exact (HaltKept.refl s).tracked
  · rename_i g _
    split
    · exact (HaltKept.refl s).tracked
    · dsimp only
      split
      · refine .after (releasePort_haltKept s) ?_
        cases g.owner with
        | mover m => exact moverFault_tracked _ m _
        | reader => exact (endList_haltKept _ _ _).tracked
      · exact (releasePort_haltKept s).tracked

/-- RESUME leaves HALT, or finds RUN, with the cause as it was (R155, R157). -/
theorem resumeDispatch_tracked (s : State) :
    HaltTracked s s.resumeDispatch ∧ s.resumeDispatch.causeSet .halt = s.causeSet .halt := by
  unfold State.resumeDispatch
  split
  · rename_i hhalted
    have hrun : HaltKept s.running ((s.eitherOrder s.running.examine).result .ok 0) :=
      ((examine_haltKept _).trans (eitherOrder_haltKept s _)).trans (result_haltKept _ _ _)
    refine ⟨?_, hrun.cause⟩
    unfold HaltTracked
    rw [hhalted]
    exact hrun.cause.trans (Bool.or_false _).symm
  · have hkept := result_haltKept s .notHalted 0
    exact ⟨hkept.tracked, hkept.cause⟩

/-- Through every command but a write to INT_CAUSE and the resets. -/
theorem exec_tracked {i : Instr} {s t : State} (hw : i.wellFormed = true) (hcause : ∀ value, i ≠ .intCauseWrite value)
    (hengine : i ≠ .engineReset) (hfull : i ≠ .fullReset) (he : exec i s = .next t) : HaltTracked s t := by
  have gated {u : State} (hu : HaltTracked s u) : HaltTracked s (s.unlessReset u) :=
    unlessReset_keeps (P := HaltTracked s) (HaltKept.refl s).tracked hu
  have event {u : State} (hu : HaltKept s u) : HaltTracked s (s.unlessReset u) := gated hu.tracked
  cases i <;> cases next_inj he
  case define k => exact event (defineSurface_haltKept s k)
  case release k => exact event (releaseSurface_haltKept s k)
  case resume => exact gated (resumeDispatch_tracked s).1
  case flush => exact event (flushQueue_haltKept s)
  case abortTag tag => exact event (abortByTag_haltKept s tag)
  case listStart => exact event (startList_haltKept s)
  case listStop => exact event (stopListCommand_haltKept s)
  case engineReset => exact absurd rfl hengine
  case unknownCommand code operand =>
    rw [control_unknown hw]
    exact event (result_haltKept s _ _)
  case post => exact event (postStaged_haltKept s)
  case completionPop => exact event (popCompletion_haltKept s)
  case intCauseWrite v => exact absurd rfl (hcause v)
  case intEnableWrite v => exact event (.of_eq rfl rfl)
  case freedSetWrite v => exact event (.of_eq rfl rfl)
  case statusWrite v =>
    refine event ?_
    unfold State.writeStatus
    split <;> exact .of_eq rfl rfl
  case timeBaseWrite v => exact event (.of_eq rfl rfl)
  case registerWrite offset v =>
    rw [writeWord_plain (by simpa [Instr.wellFormed] using hw)]
    exact event (writePlain_haltKept s _ _)
  case nonWordAccess access offset enables =>
    rw [if_neg (by simpa [Instr.wellFormed] using hw)]
    exact event (.of_eq rfl rfl)
  case fullReset => exact absurd rfl hfull
  case resetRelease =>
    refine HaltKept.tracked ?_
    unfold State.leaveReset
    split <;> exact .of_eq rfl rfl
  case preqActive n =>
    split
    · exact HaltKept.tracked (.of_port (setLine_portOnly s n _))
    · exact (requestRises_haltKept s n).tracked
  case preqInactive n =>
    refine HaltKept.tracked ?_
    unfold State.requestFalls
    dsimp only
    repeat' split
    all_goals exact .of_eq rfl rfl
  case pendFall n => exact event (endEdge_haltKept s n)
  case tick => exact event (timeTick_haltKept s)
  case timerExpiry n => exact event (timerExpires_haltKept s n)
  case beatAnswered data => exact event (answerBeat_haltKept s data)
  case beatError => exact gated (failBeat_tracked s)
  case waitSpacePresentation => exact event (presentAgain_haltKept s)

/-- Settles O45: an error response alone enters HALT, and sets the cause where it does. -/
theorem haltCauseOnEntryToHalt : Obligations.HaltCauseOnEntryToHalt := by
  refine ⟨fun i s t => exec_tracked, fun s t value hreset hbit he => ?write, fun s t hreset he => ?reset,
    fun s t he hset => ?kept⟩
  case write =>
    cases next_inj he
    rw [unlessReset_high hreset, writeIntCause_causeSet, show Cause.halt.bit = 3 from rfl, hbit, Bool.not_true, Bool.and_false]
  case reset =>
    cases next_inj he
    rw [unlessReset_high hreset]
    exact BitVec.getLsbD_zero
  case kept =>
    rcases he with he | he <;> cases next_inj he
    · exact unlessReset_keeps (P := fun u => u.causeSet .halt = true) hset ((resumeDispatch_tracked s).2.trans hset)
    · exact unlessReset_keeps (P := fun u => u.causeSet .halt = true) hset ((flushQueue_haltKept s).cause.trans hset)

end Sys2Proof.Machine
end

section
/-! RESUME (O23): in HALT the dispatcher runs and examines its head as it stands; an issue that it makes is the one that RUN would
have made, since the work on a transfer does not look at the dispatcher. -/

namespace Sys2Proof.Machine

open Sys2Proof.Safety

/-! ### The dispatcher beside the work on a transfer -/

/-- The state with another dispatcher. -/
def State.withDispatcher (s : State) (d : Dispatcher) : State :=
  { s with dispatcher := d }

section WithDispatcher

variable (s : State) (d : Dispatcher) (m : MoverIndex) (n : LineIndex)

theorem requestBurst_withDispatcher (r : Requester) (b : Burst) :
    (s.withDispatcher d).requestBurst r b = (s.requestBurst r b).withDispatcher d := by
  have hgrant : (s.withDispatcher d).grant = s.grant := rfl
  unfold State.requestBurst
  rw [hgrant]
  cases s.grant with
  | none => rfl
  | some _ => cases r <;> rfl

theorem launch_withDispatcher (bursts : List Burst) :
    (s.withDispatcher d).launch m bursts = (s.launch m bursts).withDispatcher d := by
  cases bursts with
  | nil => rfl
  | cons b bs => exact requestBurst_withDispatcher (s.setMover m ((s.mover m).queued bs)) d (.mover m) b

theorem startUnit_withDispatcher : (s.withDispatcher d).startUnit m = (s.startUnit m).withDispatcher d := by
  cases ht : (s.mover m).transfer with
  | none =>
    unfold State.startUnit
    rw [show (s.withDispatcher d).mover m = s.mover m from rfl]
    dsimp only
    rw [ht]
  | some t =>
    rw [startUnit_eq ht, startUnit_eq (s := s.withDispatcher d) ht]
    exact launch_withDispatcher (s.setMover m ((s.mover m).beginUnit (startSide t))) d m _

theorem bind_withDispatcher : (s.withDispatcher d).bind n m = (s.bind n m).withDispatcher d := by
  unfold State.bind
  rw [show (s.withDispatcher d).line n = s.line n from rfl]
  dsimp only
  split
  · exact startUnit_withDispatcher (((s.setLine n ((s.line n).bindTo m)).setLine n _).setMover m _) d m
  · rfl

theorem removeHead_withDispatcher : (s.withDispatcher d).removeHead = s.removeHead.withDispatcher d := by
  have hraise (b : Bool) (u : State) : (u.withDispatcher d).raiseIf b .lowWater = (u.raiseIf b .lowWater).withDispatcher d := by
    cases b <;> rfl
  unfold State.removeHead
  dsimp only
  exact congrArg
    (fun u : State => { u with reader := { u.reader with due := u.reader.due || u.reader.state == ReaderState.waitSpace } })
    (hraise _ { s with queue := s.queue.tail })

theorem handedOver_withDispatcher (e : Entry) :
    (s.withDispatcher d).handedOver e m = (s.handedOver e m).withDispatcher d := by
  unfold State.handedOver
  rw [removeHead_withDispatcher]
  rfl

/-- An issue is the same whatever the dispatcher's items (R66). -/
theorem issue_withDispatcher (e : Entry) : (s.withDispatcher d).issue e m = (s.issue e m).withDispatcher d := by
  cases h : e.line with
  | none => rw [issue_unpaced h, issue_unpaced h, handedOver_withDispatcher, startUnit_withDispatcher]
  | some n => rw [issue_paced h, issue_paced h, handedOver_withDispatcher, bind_withDispatcher]

end WithDispatcher

/-! ### The request of an issue -/

section Request

variable {s : State} (hport : PortSound s) (e : Entry) (m : MoverIndex)

include hport

/-- The hand-over brings no request, so that the mover of the entry alone may ask (R66, R178). -/
theorem handedOver_asksAlone : AsksAlone m s (s.handedOver e m) := by
  obtain ⟨-, hquiet, -⟩ := hport
  obtain ⟨-, -, hgrant, hothers⟩ := handedOver_frame s e m
  obtain ⟨_, hhead⟩ := removeHead_only s
  refine ⟨hgrant, fun hfree r hr hne => ?_, by rw [handedOver_mover]; rfl⟩
  have hnone : s.waiting r = none := by
    unfold State.handedOver at hr
    rw [hhead] at hr
    exact hquiet hfree r hr
  cases r with
  | mover k => exact (congrArg Mover.request (hothers k fun hk => hne (congrArg Requester.mover hk))).trans hnone
  | reader =>
    unfold State.handedOver
    rw [hhead]
    exact hnone

/-- An issue alone in its event leaves the arbiter no choice (R178). -/
theorem issue_noChoice : s.eitherOrder (s.issue e m) = s.issue e m := by
  have hasks := handedOver_asksAlone hport e m
  cases hl : e.line with
  | none =>
    rw [issue_unpaced hl]
    exact hasks.startUnit
  | some n =>
    rw [issue_paced hl]
    unfold State.bind
    dsimp only
    split
    · exact (hasks.setLine n (((s.handedOver e m).line n).bindTo m)).admitBurst n
    · exact eitherOrder_of_sameGrant ((waitIn_grant ..).trans ((setLine_grant ..).trans hasks.grant))

end Request

/-! ### RESUME -/

/-- RUN with an empty fault record, and what the dispatcher waits for (R68, R157). -/
def resumed (r : WaitReason) (slot : Bool) : Dispatcher where
  halted := false
  waitReason := r
  slotRequest := slot
  fault := none

/-- A mover at work keeps its transfer through an examination: a head is issued to an IDLE one (R63). -/
theorem examineHead_busy {s : State} {m : MoverIndex} (fuel : Nat) (h : Busy (s.mover m)) :
    ((State.examineHead fuel s).mover m).transfer = (s.mover m).transfer := by
  suffices hkept : (State.examineHead fuel s).mover m = s.mover m from congrArg Mover.transfer hkept
  refine examineHead_keeps (fun u => u.mover m = s.mover m)
    (fun u e _ o hu _ _ _ _ => by rwa [mover_congr (report_frame u e o).2.2.2.1])
    (fun u e _ k hu _ _ hk => ?_) (fun _ _ _ hu _ _ _ => hu) fuel s rfl
  obtain ⟨hidle, -⟩ := lowestIdle_of_issue hk
  have hne : m ≠ k := by
    rintro rfl
    rw [hu] at hidle
    rcases h.1 with hrun | hpace
    · exact absurd (hidle.symm.trans hrun) nofun
    · exact absurd (hidle.symm.trans hpace) nofun
  rwa [issue_others u e hne]

section Resume

variable {s : State}

theorem exec_resume (hreset : s.inReset = false) : exec .resume s = .next s.resumeDispatch :=
  congrArg Host.Outcome.next (unlessReset_high hreset _)

theorem resumeDispatch_run (h : s.dispatcher.halted = false) : s.resumeDispatch = s.result .notHalted 0 :=
  if_neg (by simp [h])

theorem resumeDispatch_halt (h : s.dispatcher.halted = true) :
    s.resumeDispatch = (s.eitherOrder s.running.examine).result .ok 0 :=
  if_pos h

variable (h : s.dispatcher.halted = true)

include h

/-- After RESUME the dispatcher runs, with no fault recorded. -/
theorem resumeDispatch_dispatcher :
    s.resumeDispatch.dispatcher.halted = false ∧ s.resumeDispatch.dispatcher.fault = none := by
  have hkept : s.resumeDispatch.dispatcher = s.running.examine.dispatcher := by
    rw [resumeDispatch_halt h]
    exact (eitherOrder_calm (w := False) s s.running.examine).dispatcher
  rw [hkept]
  exact examineHead_keeps (fun u => u.dispatcher.halted = false ∧ u.dispatcher.fault = none)
    (fun u e _ o hu _ _ _ _ => by rwa [(report_frame u e o).2.2.2.2.2])
    (fun u e _ m hu _ _ _ => by rwa [(issue_frame u m e).2])
    (fun _ _ _ hu _ _ _ => hu) _ s.running ⟨rfl, rfl⟩

/-- An examination that ends in a wait at once changes the dispatcher alone. -/
theorem resumeDispatch_waits {r : WaitReason} {slot : Bool} (hwaits : s.running.examine = s.running.setWait r slot) :
    s.resumeDispatch = (s.withDispatcher (resumed r slot)).result .ok 0 := by
  rw [resumeDispatch_halt h, hwaits, eitherOrder_of_sameGrant (s := s) (t := s.running.setWait r slot) rfl]
  rfl

variable {e : Entry} {q : List Entry} (hq : s.queue = e :: q)

include hq

/-- A head to be reported is the first record of the event (R57, R59). -/
theorem resumeDispatch_reports {o : Outcome} (ho : s.decision e = .report o) (hroom : s.completions.length < 32) :
    ∃ more, ReportsFirst s s.resumeDispatch e o more := by
  obtain ⟨more, hmore⟩ := examineHead_appends s.running.queue.length (s.running.report e o)
  rw [(report_frame s.running e o).2.1, List.append_assoc] at hmore
  rw [resumeDispatch_halt h, examine_report (s := s.running) rfl hq ho hroom]
  exact ⟨more, (eitherOrder_calm (w := False) s _).completions.trans hmore⟩

variable {m : MoverIndex} (hm : s.decision e = .issue m)

include hm

/-- A head that is issued stays with its mover, whatever heads follow (R66). -/
theorem resumeDispatch_issues : (s.resumeDispatch.mover m).transfer = some e := by
  have hexamine : s.running.examine = State.examineHead s.running.queue.length (s.running.issue e m) := by
    unfold State.examine
    rw [State.examineHead, if_neg (by simp [State.running]), show s.running.queue = e :: q from hq]
    dsimp only
    rw [show s.running.decision e = .issue m from hm]
  have hbusy : Busy ((s.running.issue e m).mover m) := by
    refine ((issue_calm (w := True) s.running m e).mover trivial m).busy ?_
    rw [setMover_mover]
    exact take_busy e
  obtain ⟨_, hmover⟩ := eitherOrder_mover s s.running.examine m
  rw [resumeDispatch_halt h]
  refine (congrArg Mover.transfer hmover).trans ?_
  rw [hexamine]
  exact (examineHead_busy _ hbusy).trans (issue_transfer s.running m e)

/-- The only entry, where nobody waits at a free port: its issue is the whole event (R66, R178). -/
theorem resumeDispatch_issues_only (hlast : q = []) (hport : PortSound s) :
    s.resumeDispatch = ((s.issue e m).withDispatcher (resumed .none false)).result .ok 0 := by
  subst hlast
  have hexamine : s.running.examine = (s.issue e m).withDispatcher (resumed .none false) := by
    rw [examine_single (s := s.running) rfl hq, show s.running.decision e = .issue m from hm]
    show (((s.withDispatcher _).issue e m).setWait .none false) = _
    rw [issue_withDispatcher]
    rfl
  rw [resumeDispatch_halt h, hexamine, ← issue_withDispatcher]
  exact congrArg (State.result · .ok 0) (issue_noChoice (s := s.withDispatcher (resumed .none false)) hport e m)

end Resume

/-- Settles O23: by the state of the dispatcher, and in HALT by the decision on the head. -/
theorem resumeFromHalt : Obligations.ResumeFromHalt := by
  intro s hreset
  rw [exec_resume hreset]
  refine ⟨fun hrun => congrArg _ (resumeDispatch_run hrun), fun hhalt => ⟨⟨_, rfl, ?general⟩, fun hq => congrArg _ ?empty,
    fun e q r hq hr => congrArg _ ?held, fun e q o hq ho => ⟨fun hfull => congrArg _ ?full, fun hroom => ?reported⟩,
    fun e q m hq hr hh hm => ?issued⟩⟩
  case general =>
    obtain ⟨hrun, hfault⟩ := resumeDispatch_dispatcher hhalt
    obtain ⟨-, -, hcontrol⟩ := hostSideChangesByHostAlone .resume s _ (exec_resume hreset)
    refine ⟨hrun, hfault, ?_, hcontrol (.inl rfl)⟩
    rw [resumeDispatch_halt hhalt]
    rfl
  case empty => exact resumeDispatch_waits hhalt (examineHead_empty _ rfl hq)
  case held => exact resumeDispatch_waits hhalt (examine_hold (s := s.running) rfl hq (decision_of_hold hr))
  case full => exact resumeDispatch_waits hhalt (examine_full (s := s.running) rfl hq (decision_of_report ho) hfull)
  case reported =>
    obtain ⟨more, hmore⟩ := resumeDispatch_reports hhalt hq (decision_of_report ho) hroom
    exact ⟨_, more, rfl, hmore⟩
  case issued =>
    have hdecision := decision_of_issue hr hh hm
    exact ⟨_, rfl, resumeDispatch_issues hhalt hq hdecision, resumeDispatch_issues_only hhalt hq hdecision⟩

end Sys2Proof.Machine
end

section
/-! FLUSH and LOW_WATER (O25), and an ENGINE_RESET beside an error response (O57): what an error changes is what the reset
empties, but for the grant that the freed port makes. -/

namespace Sys2Proof.Machine

open Sys2Proof.Safety

/-- Settles O25: of the causes that a FLUSH raises LOW_WATER rests on the free slots before it alone. -/
theorem flushChecksLowWater : Obligations.FlushChecksLowWater := by
  intro s hreset hcapacity hsettings
  obtain ⟨table, freed, causes, he, -, -, hcauses⟩ := flushEmptiesQueue s hreset
  obtain ⟨-, -, -, hmark, -⟩ := hsettings
  have hcause : State.causeSet { s with causes := causes } .lowWater =
      (s.causeSet .lowWater || decide (s.freeSlots < s.lowWater)) :=
    (hcauses .lowWater).trans ((Bool.or_false _).trans (Bool.or_false _))
  refine ⟨_, he, rfl, hmark, ?_, fun hempty => ?_⟩
  · show State.causeSet { s with causes := causes } .lowWater = true ↔ _
    rw [hcause, Bool.or_eq_true, decide_eq_true_iff]
  · have hfull : ¬ s.freeSlots < s.lowWater := by
      rw [State.freeSlots, hempty]
      exact Nat.not_lt.mpr hmark
    show State.causeSet { s with causes := causes } .lowWater = _
    rw [hcause, decide_eq_false hfull, Bool.or_false]

/-! ### What an ENGINE_RESET forgets -/

section Forgets

variable (s : State)

/-- The reset empties the movers. -/
theorem resetEngine_setMover (m : MoverIndex) (v : Mover) : (s.setMover m v).resetEngine = s.resetEngine := rfl

/-- It releases a line that is released already. -/
theorem resetEngine_idleLine (n : LineIndex) : (s.idleLine n).resetEngine = s.resetEngine := by
  have hlines : (Vector.ofFn fun k => ((s.idleLine n).line k).released) = Vector.ofFn fun k => (s.line k).released := by
    refine congrArg Vector.ofFn (funext fun k => ?_)
    by_cases hk : k = n
    · subst hk
      rw [State.idleLine, setLine_line]
      rfl
    · rw [State.idleLine, setLine_line_ne s hk]
  unfold State.resetEngine
  dsimp only
  rw [hlines]
  rfl

/-- It empties the completion queue, and clears the causes. -/
theorem resetEngine_appendRecord (r : Completion) : (s.appendRecord r).resetEngine = s.resetEngine := by
  obtain ⟨_, h⟩ := appendRecord_only s r
  rw [h]
  rfl

/-- The surface that a reference is returned of before the reset is the one that the reset makes FREE (R17, R23). -/
theorem engineReset_afterReturns (f : Surface) (n : Nat) : (f.afterReturns n).engineReset = f.engineReset := by
  unfold Surface.afterReturns Surface.engineReset
  by_cases hfree : f.state = .draining ∧ 0 < n ∧ f.refcount ≤ n
  · simp [hfree]
  · simp [hfree]

/-- Its FREED_SET bit is set before the reset or by it (R19, R23). -/
theorem resetEngine_freedBit (e : Entry) (i : SurfaceIndex) :
    ((s.returnRefs e).freedSet ||| (s.returnRefs e).drainingSet).getLsbD i.val =
      (s.freedSet ||| s.drainingSet).getLsbD i.val := by
  obtain ⟨hsurface, hbit, -⟩ := returnRefs_returnsRefs s e
  rw [BitVec.getLsbD_or, BitVec.getLsbD_or, drainingSet_bit, drainingSet_bit, hbit, hsurface]
  by_cases hfree : FreedBy s e.surfaces i
  · simp [hfree]
  · simp [hfree]

/-- A return of references before the reset is part of it. -/
theorem resetEngine_returnRefs (e : Entry) : (s.returnRefs e).resetEngine = s.resetEngine := by
  have hsurfaces : (Vector.ofFn fun i => ((s.returnRefs e).surface i).engineReset) =
      Vector.ofFn fun i => (s.surface i).engineReset :=
    congrArg Vector.ofFn (funext fun i => by rw [returnRefs_surface, engineReset_afterReturns])
  have hfreed : (s.returnRefs e).freedSet ||| (s.returnRefs e).drainingSet = s.freedSet ||| s.drainingSet :=
    BitVec.eq_of_getLsbD_eq fun i hi => resetEngine_freedBit s e ⟨i, hi⟩
  unfold State.resetEngine
  dsimp only
  rw [hsurfaces, hfreed]
  obtain ⟨_, _, _, h⟩ := returnRefs_refsOnly s e
  rw [h]
  rfl

theorem resetEngine_serveMover (m : MoverIndex) : (s.serveMover m).resetEngine = s.resetEngine := by
  unfold State.serveMover
  dsimp only
  split
  · split
    · rw [resetEngine_returnRefs, resetEngine_setMover, resetEngine_appendRecord]
    · rfl
  · rfl

theorem resetEngine_finish (m : MoverIndex) (o : Outcome) (f : Option FaultItem) :
    (s.finish m o f).resetEngine = s.resetEngine := by
  unfold State.finish
  dsimp only
  split
  · exact resetEngine_setMover s m _
  · exact (resetEngine_idleLine _ _).trans (resetEngine_setMover s m _)

/-- In HALT no head is taken, so the end of a transfer before the reset leaves nothing behind (R69). -/
theorem resetEngine_endTransfer (m : MoverIndex) (o : Outcome) (f : Option FaultItem) (h : s.dispatcher.halted = true) :
    (s.endTransfer m o f).resetEngine = s.resetEngine := by
  have hhalted : (((s.finish m o f).serveMover 0).serveMover 1).dispatcher.halted = true := by
    rw [serveMover_dispatcher, serveMover_dispatcher, finish_dispatcher, h]
  unfold State.endTransfer State.settle
  rw [examine_halted hhalted, resetEngine_serveMover, resetEngine_serveMover, resetEngine_finish]

theorem resetEngine_captureFault (r : FaultRecord) : (s.captureFault r).resetEngine = s.resetEngine := by
  unfold State.captureFault
  split <;> rfl

/-- A mover's fault enters HALT, or finds it, so its event ends there (R154). -/
theorem resetEngine_moverFault (m : MoverIndex) (x : FaultItem) : (s.moverFault m x).resetEngine = s.resetEngine := by
  unfold State.moverFault
  split
  · rfl
  · rw [resetEngine_endTransfer _ _ _ _ (captureFault_frame s _).2, resetEngine_captureFault]

theorem resetEngine_burstFailed (r : Requester) (write : Bool) (b : Beat) :
    (s.burstFailed r write b).resetEngine = s.resetEngine := by
  cases r with
  | mover m => exact resetEngine_moverFault s m _
  | reader => rfl

/-- The port that is freed before the reset may have granted a waiting requester, which the reset does not take back (R178,
R179). -/
theorem resetEngine_releasePort :
    s.releasePort.resetEngine =
      { s.resetEngine with grant := s.releasePort.resetEngine.grant, rotation := s.releasePort.rotation } := by
  rw [releasePort_eq]
  cases s.portFree.firstWaiting with
  | none => rfl
  | some r =>
    rw [Option.bind_some]
    cases s.portFree.waiting r with
    | none => rfl
    | some b => cases r <;> rfl

end Forgets

/-! ### The two orders -/

/-- A burst with no beat left has no beat to fail. -/
theorem failBeat_over {s : State} {g : Grant} (hgrant : s.grant = some g) (hbeats : g.burst.beats = []) : s.failBeat = s := by
  unfold State.failBeat
  rw [hgrant]
  dsimp only
  rw [hbeats]

theorem resetEngine_inReset (s : State) : s.resetEngine.inReset = s.inReset := by
  simp only [State.resetEngine, State.result]

/-- After an ENGINE_RESET nobody waits (R162, R163). -/
theorem resetEngine_waiting (s : State) (r : Requester) : s.resetEngine.waiting r = none := by
  cases r with
  | reader => rfl
  | mover m => fin_cases m <;> rfl

theorem exec_engineReset {s : State} (hreset : s.inReset = false) : exec .engineReset s = .next s.resetEngine :=
  congrArg Host.Outcome.next (unlessReset_high hreset _)

section Orders

variable {s : State} {g : Grant} {b : Beat} {rest : List Beat} (hgrant : s.grant = some g) (hbeats : g.burst.beats = b :: rest)

include hgrant hbeats

/-- The error first: the reset takes back what the burst's requester made of it. -/
theorem resetEngine_failBeat : s.failBeat.resetEngine = s.releasePort.resetEngine := by
  rw [failBeat_eq hgrant hbeats]
  split
  · exact resetEngine_burstFailed _ _ _ _
  · rfl

/-- The reset first: the error falls on a burst whose requester has gone, and frees the port (R163, R179). -/
theorem failBeat_resetEngine : s.resetEngine.failBeat = { s.resetEngine with grant := none } := by
  have horphan : s.resetEngine.grant = some g.orphan := congrArg (Option.map Grant.orphan) hgrant
  rw [failBeat_eq horphan hbeats]
  exact releasePort_quiet (resetEngine_waiting s)

theorem resetEngine_failBeat_order :
    s.failBeat.resetEngine =
      { s.resetEngine.failBeat with grant := s.failBeat.resetEngine.grant, rotation := s.failBeat.resetEngine.rotation } := by
  rw [failBeat_resetEngine hgrant hbeats, resetEngine_failBeat hgrant hbeats, resetEngine_releasePort]

theorem resetEngine_failBeat_quiet (hquiet : ∀ r, s.waiting r = none) : s.failBeat.resetEngine = s.resetEngine.failBeat := by
  rw [failBeat_resetEngine hgrant hbeats, resetEngine_failBeat hgrant hbeats, releasePort_quiet hquiet]
  rfl

end Orders

/-- Settles O57: an error with no beat to fall on changes neither order, and in HALT, which it enters, no new head is taken. -/
theorem engineResetAndErrorCommute : Obligations.EngineResetAndErrorCommute := by
  intro s t u v w hreset ht hu hv hw
  obtain rfl : t = s.failBeat := next_inj ((exec_beatError hreset).symm.trans ht)
  have hopen : s.failBeat.inReset = false := by
    obtain ⟨_, _, _, _, _, _, _, _, _, _, _, _, _, h⟩ := failBeat_engineOnly s
    rw [h, hreset]
  obtain rfl : u = s.failBeat.resetEngine := next_inj ((exec_engineReset hopen).symm.trans hu)
  obtain rfl : v = s.resetEngine := next_inj ((exec_engineReset hreset).symm.trans hv)
  obtain rfl : w = s.resetEngine.failBeat := by
    refine next_inj ((exec_beatError ?_).symm.trans hw)
    rw [resetEngine_inReset, hreset]
  have same (h : s.failBeat = s) (k : s.resetEngine.failBeat = s.resetEngine) :
      s.failBeat.resetEngine = { s.resetEngine.failBeat with
        grant := s.failBeat.resetEngine.grant, rotation := s.failBeat.resetEngine.rotation }
      ∧ ((∀ r, s.waiting r = none) → s.failBeat.resetEngine = s.resetEngine.failBeat) := by
    rw [h, k]
    exact ⟨rfl, fun _ => rfl⟩
  cases hgrant : s.grant with
  | none => exact same (failBeat_free hgrant) (failBeat_free (congrArg (Option.map Grant.orphan) hgrant))
  | some g =>
    cases hbeats : g.burst.beats with
    | nil => exact same (failBeat_over hgrant hbeats) (failBeat_over (congrArg (Option.map Grant.orphan) hgrant) hbeats)
    | cons b rest =>
      exact ⟨resetEngine_failBeat_order hgrant hbeats, resetEngine_failBeat_quiet hgrant hbeats⟩

end Sys2Proof.Machine
end

section
/-! Command records (O12) and the word writes of the window (O55): the fields of a word stand where they were put, whatever the
ignored bits beside them. -/

namespace Sys2Proof.Machine

/-! ### Command records -/

/-- The codes of Table 9-5 for the kinds (R172). -/
theorem kindOfCode_toNat (kind : BitVec 4) :
    kindOfCode kind.toNat =
      if kind = 1 then some .move else if kind = 2 then some .fill else if kind = 3 then some .fence else none := by
  revert kind
  decide

/-- Word 0 of a command record: kind, flags and tag (Table 9-5). -/
theorem recordHead_fields (u : BitVec 16) (tag : Tag) (v : BitVec 1) (clip keyed signal : Bool) (kind : BitVec 4) :
    let w := u ++ tag ++ v ++ BitVec.ofBool signal ++ BitVec.ofBool keyed ++ BitVec.ofBool clip ++ kind
    w.extractLsb' 0 4 = kind ∧ w.extractLsb' 8 8 = tag ∧ w.getLsbD 4 = clip ∧ w.getLsbD 5 = keyed ∧ w.getLsbD 6 = signal := by
  intro w
  simp (disch := decide) only [w, BitVec.getLsbD_append, BitVec.extractLsb'_append_eq_of_le,
    BitVec.extractLsb'_append_eq_of_add_le]
  simp

/-- Word 1 of a command record: the two surface names (Table 9-5, R26). -/
theorem recordNames_fields (x y : BitVec 4) (a b : BitVec 3) (sg dg : BitVec 4) (si di : BitVec 5) :
    let w := x ++ dg ++ a ++ di ++ y ++ sg ++ b ++ si
    w.extractLsb' 0 5 = si ∧ w.extractLsb' 8 4 = sg ∧ w.extractLsb' 16 5 = di ∧ w.extractLsb' 24 4 = dg := by
  intro w
  simp (disch := decide) only [w, BitVec.extractLsb'_append_eq_of_le, BitVec.extractLsb'_append_eq_of_add_le]
  simp

/-- Words 2 to 6 of a command record hold two halves each (Table 9-5). -/
theorem halves_fields (hi lo : BitVec 16) :
    let w : Word := hi ++ lo
    w.extractLsb' 0 16 = lo ∧ w.extractLsb' 16 16 = hi :=
  ⟨BitVec.extractLsb'_append_eq_right, BitVec.extractLsb'_append_eq_left⟩

/-- Settles O12, word by word. -/
theorem commandRecordFields : Obligations.CommandRecordFields := by
  intro kind clip keyed signal tag si di sg dg sx sy sz dx dy dz w h d u u' v a b x y words
  obtain ⟨hkind, htag, hclip, hkeyed, hsignal⟩ := recordHead_fields u tag v clip keyed signal kind
  obtain ⟨hsi, hsg, hdi, hdg⟩ := recordNames_fields x y a b sg dg si di
  have hlow (hi lo : BitVec 16) : (hi ++ lo : Word).extractLsb' 0 16 = lo := (halves_fields hi lo).1
  have hhigh (hi lo : BitVec 16) : (hi ++ lo : Word).extractLsb' 16 16 = hi := (halves_fields hi lo).2
  simp only [decodeCommand, words, List.getD_cons_zero, List.getD_cons_succ, field, flag, signedField, hkind, kindOfCode_toNat,
    htag, hclip, hkeyed, hsignal, hsi, hsg, hdi, hdg, hlow, hhigh]

/-! ### Word writes of the window -/

/-- The control command of a code and an operand (R167, Table 9-8). -/
def controlCommand (code : BitVec 4) (operand : BitVec 8) : Instr :=
  match code.toNat with
  | 1 => .define operand
  | 2 => .release operand
  | 3 => .resume
  | 4 => .flush
  | 5 => .abortTag operand
  | 6 => .listStart
  | 7 => .listStop
  | 8 => .engineReset
  | _ => .unknownCommand code operand

/-- A word of CONTROL built from a code and an operand decodes as the table has it (R167, Table 9-8). -/
theorem decodeControl_controlWord (code : BitVec 4) (operand : BitVec 8) :
    decodeControl (controlWord code operand) = controlCommand code operand := by
  obtain ⟨hcode, hoperand⟩ := controlWord_fields code operand
  unfold decodeControl
  rw [hcode, hoperand]
  rfl

/-- A code that no control command has stays what it is (R167). -/
theorem decodeControl_unknown {code : BitVec 4} (h : unknownCode code = true) (operand : BitVec 8) :
    decodeControl (controlWord code operand) = .unknownCommand code operand := by
  simp only [unknownCode, Bool.or_eq_true, decide_eq_true_eq] at h
  rw [decodeControl_controlWord]
  unfold controlCommand
  split
  case h_9 => rfl
  all_goals omega

/-- A register without behaviour of its own keeps its offset (R165). -/
theorem decodeWordWrite_plain {offset : Offset} (h : hasOwnRow offset = false) (word : Word) :
    decodeWordWrite offset word = .registerWrite offset word := by
  unfold decodeWordWrite
  split
  case h_9 => rfl
  all_goals
    rename_i hoffset
    simp [hasOwnRow, hoffset] at h

/-- A command that is a word write comes back from its offset and word. -/
theorem decode_encodeWordWrite {i : Instr} {offset : Offset} {word : Word} (hwf : i.wellFormed = true)
    (h : encodeWordWrite i = some (offset, word)) : decodeWordWrite offset word = i := by
  cases i <;> cases h
  case unknownCommand code operand => exact decodeControl_unknown hwf operand
  case registerWrite => exact decodeWordWrite_plain (by simpa [Instr.wellFormed] using hwf) word
  case define index => exact decodeControl_controlWord 1 index
  case release index => exact decodeControl_controlWord 2 index
  case abortTag tag => exact decodeControl_controlWord 5 tag
  all_goals rfl

/-- Settles O55. -/
theorem wordWritesRoundTrip : Obligations.WordWritesRoundTrip :=
  ⟨fun _ _ _ hwf h => decode_encodeWordWrite hwf h, decodeWordWrite_wellFormed, exec_decodeWordWrite⟩

end Sys2Proof.Machine
end

section
/-! The arbiter (O58): a request at the port, the port freed, and the choice between two requests of one event (R178). -/

namespace Sys2Proof.Machine

open Sys2Proof.Safety

/-! ### What an update leaves waiting -/

/-- Setting one requester's request leaves those of the others. -/
@[simp] theorem setWaiting_waiting (s : State) (r : Requester) (b : Option Burst) (k : Requester) :
    (s.setWaiting r b).waiting k = if r = k then b else s.waiting k := by
  cases k with
  | mover m => exact setWaiting_request s r b m
  | reader => cases r <;> rfl

/-! ### A request -/

theorem requestBurst_free {s : State} (h : s.grant = none) (r : Requester) (b : Burst) :
    s.requestBurst r b = s.grantTo r b := by
  unfold State.requestBurst
  rw [h]

theorem requestBurst_busy {s : State} (h : s.grant ≠ none) (r : Requester) (b : Burst) :
    s.requestBurst r b = s.setWaiting r (some b) := by
  obtain ⟨g, hg⟩ := Option.ne_none_iff_exists'.mp h
  unfold State.requestBurst
  rw [hg]

/-- A requester that starts to wait takes nothing from the burst in progress. -/
theorem setWaiting_port (s : State) (r : Requester) (b : Option Burst) :
    (s.setWaiting r b).grant = s.grant ∧ (s.setWaiting r b).rotation = s.rotation := by
  cases r <;> exact ⟨rfl, rfl⟩

/-! ### The port freed -/

/-- With the first waiting requester granted, the other requests wait on (R178). -/
theorem releasePort_waiting {s : State} {r : Requester} {next : Burst} {before after : List Requester}
    (horder : s.rotation = before ++ r :: after) (hbefore : ∀ k ∈ before, s.waiting k = none)
    (hwaits : s.waiting r = some next) (k : Requester) :
    s.releasePort.waiting k = if r = k then none else s.waiting k := by
  rw [releasePort_grants horder hbefore hwaits, ← setWaiting_waiting]
  cases k <;> rfl

/-- The owner of the burst in progress stands last in the rotation order, behind the other two (R178). -/
theorem rotation_of_grant {s : State} {g : Grant} (h : PortSound s) (hg : s.grant = some g) :
    ∃ p q, s.rotation = [p, q, g.owner] ∧ p ≠ q ∧ ∀ r, r ≠ g.owner → r = p ∨ r = q := by
  obtain ⟨hperm, -, -, -, hgrant⟩ := h
  obtain ⟨-, hlast, -⟩ := hgrant g hg
  obtain ⟨p, q, o, horder⟩ := List.length_eq_three.mp hperm.length_eq
  obtain rfl : o = g.owner := by simpa [horder] using hlast
  have hnodup : s.rotation.Nodup := hperm.nodup_iff.mpr (by decide)
  have hpq : p ≠ q := fun e => by simp [horder, e] at hnodup
  refine ⟨p, q, horder, hpq, fun r hr => ?_⟩
  have hmem : r ∈ s.rotation := hperm.mem_iff.mpr (by
    cases r with
    | reader => decide
    | mover m => fin_cases m <;> decide)
  simpa [horder, hr] using hmem

/-- A requester that waits for another's burst is granted when the port is freed, or is the next in the order (R178). -/
theorem releasePort_serves {s : State} {g : Grant} {r : Requester} {b : Burst} (h : PortSound s) (hg : s.grant = some g)
    (hr : g.owner ≠ r) (hwaits : s.waiting r = some b) :
    (∃ g, s.releasePort.grant = some g ∧ g.owner = r)
      ∨ (s.releasePort.grant ≠ none ∧ s.releasePort.rotation.head? = some r ∧ s.releasePort.waiting r = some b) := by
  obtain ⟨p, q, horder, hpq, hothers⟩ := rotation_of_grant h hg
  rcases hothers r (Ne.symm hr) with rfl | rfl
  · left
    rw [releasePort_grants (before := []) horder nofun hwaits]
    exact ⟨_, rfl, rfl⟩
  · cases hfirst : s.waiting p with
    | none =>
      left
      rw [releasePort_grants (before := [p]) horder (by simpa using hfirst) hwaits]
      exact ⟨_, rfl, rfl⟩
    | some c =>
      right
      refine ⟨?_, ?_, ?_⟩
      · rw [releasePort_grants (before := []) horder nofun hfirst]
        exact nofun
      · rw [releasePort_grants (before := []) horder nofun hfirst, horder]
        simp
      · rw [releasePort_waiting (before := []) horder nofun hfirst, if_neg hpq, hwaits]

/-! ### Two requests of one event -/

/-- A requester that alone waits is the first one waiting. -/
theorem firstWaiting_only {t : State} {r : Requester} {b : Burst} (hwaits : t.waiting r = some b) (hmem : r ∈ t.rotation)
    (hothers : ∀ k, k ≠ r → t.waiting k = none) : t.firstWaiting = some r := by
  unfold State.firstWaiting
  cases hfind : t.rotation.find? fun k => (t.waiting k).isSome with
  | none =>
    have hnone := List.find?_eq_none.mp hfind r hmem
    simp [hwaits] at hnone
  | some k =>
    by_contra hne
    have hk := List.find?_some hfind
    simp [hothers k fun e => hne (e ▸ rfl)] at hk

/-- The request that waits is granted in place of the one in progress, which waits in its turn; `order` is the rotation order
before both. -/
def State.servedInstead (t : State) (order : List Requester) (g : Grant) (r : Requester) (b : Burst) : State :=
  { ({ t with draws := t.draws + 1 }.setWaiting r none).setWaiting g.owner (some g.burst) with rotation := order }.grantTo r b

/-- The two requesters have changed places, and the others wait as before. -/
theorem servedInstead_waiting (t : State) (order : List Requester) (g : Grant) (r : Requester) (b : Burst) (k : Requester) :
    (t.servedInstead order g r b).waiting k =
      if g.owner = k then some g.burst else if r = k then none else t.waiting k := by
  have hset : (t.servedInstead order g r b).waiting k =
      (({ t with draws := t.draws + 1 }.setWaiting r none).setWaiting g.owner (some g.burst)).waiting k := by cases k <;> rfl
  rw [hset, setWaiting_waiting, setWaiting_waiting]
  cases k <;> rfl

/-- Two requests at a free port: the one granted stays so, or the two change places (R178, log 9). -/
theorem eitherOrder_of_two {s t : State} {g : Grant} {r : Requester} {b : Burst} (hfree : s.grant = none)
    (hg : t.grant = some g) (hfirst : t.firstWaiting = some r) (hwaits : t.waiting r = some b) :
    s.eitherOrder t =
      if Config.laterRequestFirst t.draws then t.servedInstead s.rotation g r b else { t with draws := t.draws + 1 } := by
  unfold State.eitherOrder
  split
  · next g' r' _ hg' hfirst' =>
    obtain rfl : g = g' := Option.some.inj (hg.symm.trans hg')
    obtain rfl : r = r' := Option.some.inj (hfirst.symm.trans hfirst')
    split
    · next hnone => cases hwaits.symm.trans hnone
    · next b' hb =>
      obtain rfl : b = b' := Option.some.inj (hwaits.symm.trans hb)
      rfl
  · next hnone => exact absurd hfirst (hnone g r hfree hg)

/-- Settles O58. -/
theorem arbiterServesInRotation : Obligations.ArbiterServesInRotation := by
  refine ⟨fun s r b => ⟨fun hfree => ?free, fun hbusy => ?busy⟩, fun s r b before after horder hbefore hwaits => ?freed,
    fun s g r b h hg hr hwaits => releasePort_serves h hg hr hwaits,
    fun s t g r b hfree hg hr hwaits hmem hothers => ?choice⟩
  case free =>
    rw [requestBurst_free hfree]
    exact ⟨rfl, rfl⟩
  case busy =>
    obtain ⟨hgrant, hrotation⟩ := setWaiting_port s r (some b)
    rw [requestBurst_busy hbusy, setWaiting_waiting, if_pos rfl]
    exact ⟨hgrant, hrotation, rfl⟩
  case freed =>
    rw [releasePort_waiting horder hbefore hwaits, if_pos rfl, releasePort_grants horder hbefore hwaits]
    exact ⟨rfl, rfl, rfl⟩
  case choice =>
    intro u
    have hu : u = _ := eitherOrder_of_two hfree hg (firstWaiting_only hwaits hmem hothers) hwaits
    cases hlater : Config.laterRequestFirst t.draws with
    | false =>
      left
      rw [hu, hlater]
      exact ⟨hg, by cases r <;> exact hwaits, rfl⟩
    | true =>
      right
      rw [hu, hlater, if_pos rfl, servedInstead_waiting, servedInstead_waiting, if_neg hr, if_pos rfl, if_pos rfl]
      exact ⟨rfl, rfl, rfl, rfl⟩

end Sys2Proof.Machine
end

section
/-! Full reset (O3), and what every register reads after it (O4). -/

namespace Sys2Proof.Machine

/-- RESETn going high after a full reset: the divider starts with the reset time base (R99, R170). -/
theorem leaveReset_resetFull (s : State) :
    s.resetFull.leaveReset = { State.reset with
      pending := s.pending
      draws := s.draws
      lines := Vector.ofFn fun n => { PacingLine.reset with request := (s.line n).request } } := rfl

/-- While RESETn is high it does not rise again (log 15). -/
theorem leaveReset_high {s : State} (h : s.inReset = false) : s.leaveReset = s := by
  unfold State.leaveReset
  rw [h]
  rfl

/-- While RESETn is low a level on PREQn is kept and not acted on (R115, R170). -/
theorem exec_preq_low {s : State} (h : s.inReset = true) (n : LineIndex) :
    exec (.preqActive n) s = .next (s.setRequest n true) ∧ exec (.preqInactive n) s = .next (s.setRequest n false) :=
  ⟨congrArg Host.Outcome.next (if_pos h), congrArg Host.Outcome.next (if_pos h)⟩

/-- While RESETn is low every access, and every event but those of the reset input and of PREQn, is dropped (log 7). -/
theorem exec_low {s : State} (h : s.inReset = true) {i : Instr} (hfull : i ≠ .fullReset) (hrelease : i ≠ .resetRelease)
    (hlevels : ∀ n, i ≠ .preqActive n ∧ i ≠ .preqInactive n) : exec i s = .next s := by
  cases i
  case fullReset => exact absurd rfl hfull
  case resetRelease => exact absurd rfl hrelease
  case preqActive n => exact absurd rfl (hlevels n).1
  case preqInactive n => exact absurd rfl (hlevels n).2
  all_goals exact congrArg Host.Outcome.next (unlessReset_low h _)

/-- Settles O3. -/
theorem fullResetAndRelease : Obligations.FullResetAndRelease := fun s =>
  ⟨⟨s.resetFull, rfl, rfl, rfl, congrArg Host.Outcome.next (leaveReset_resetFull s)⟩,
    fun hhigh => congrArg Host.Outcome.next (leaveReset_high hhigh),
    fun hlow => ⟨exec_preq_low hlow, fun _ => exec_low hlow⟩⟩

/-- Settles O4, by evaluation of the reset state at each offset. -/
theorem registersAfterFullReset : Obligations.RegistersAfterFullReset := by
  unfold Obligations.RegistersAfterFullReset
  decide

end Sys2Proof.Machine
end

section
/-! The queue of waiting commands (log 2): a step takes its front (O1), and no command touches it (O2). -/

namespace Sys2Proof.Machine

/-- Settles O1: the two branches of a step. -/
theorem stepRunsFrontCommand : Obligations.StepRunsFrontCommand :=
  fun _ _ _ => ⟨rfl, rfl⟩

/-- No row of the table faults or refuses (log 27). -/
theorem exec_total (i : Instr) (s : State) : ∃ t, exec i s = .next t := by
  cases i
  all_goals exact ⟨_, rfl⟩

theorem EngineOnly.pending {s t : State} (h : EngineOnly s t) : t.pending = s.pending := by
  obtain ⟨_, _, _, _, _, _, _, _, _, _, _, _, _, rfl⟩ := h
  rfl

theorem writePlain_pending (s : State) (offset : Offset) (v : Word) : (s.writePlain offset v).pending = s.pending := by
  unfold State.writePlain
  dsimp only
  repeat' split
  all_goals rfl

theorem writeStatus_pending (s : State) (v : Word) : (s.writeStatus v).pending = s.pending := by
  unfold State.writeStatus
  split
  · rfl
  · rfl

theorem popCompletion_pending (s : State) : s.popCompletion.pending = s.pending := by
  unfold State.popCompletion
  split
  · rfl
  · rename_i rest _
    have hrest : EngineOnly s { s with completions := rest } := ⟨_, _, _, _, _, _, _, _, _, _, _, _, _, rfl⟩
    dsimp only
    split
    · rfl
    · exact ((hrest.trans (settle_engineOnly _)).trans (eitherOrder_engineOnly s _)).pending

theorem leaveReset_pending (s : State) : s.leaveReset.pending = s.pending := by
  unfold State.leaveReset
  split
  · rfl
  · rfl

/-- The queue stands outside the device: the events, POST and the control commands keep it with the rest of the host's side
(`hostSideChangesByHostAlone`), and each other row writes registers of its own. -/
theorem exec_wellFormed_pending {i : Instr} {s t : State} (hw : i.wellFormed = true) (he : exec i s = .next t) :
    t.pending = s.pending := by
  obtain ⟨hevent, hpost, hcontrol⟩ := hostSideChangesByHostAlone i s t he
  have write {u : State} (hu : u.pending = s.pending) : (s.unlessReset u).pending = s.pending :=
    unlessReset_keeps (P := fun u => u.pending = s.pending) rfl hu
  cases i
  case define | release | resume | flush | abortTag | listStart | listStop | engineReset =>
    exact (hcontrol (by simp)).1
  case post => exact (hpost rfl).1
  case preqActive | preqInactive | pendFall | tick | timerExpiry | beatAnswered | beatError | waitSpacePresentation =>
    exact (hevent (by simp)).1.1
  all_goals cases next_inj he
  case unknownCommand code operand =>
    rw [control_unknown hw]
    exact write (u := s.unknownControl) rfl
  case completionPop => exact write (popCompletion_pending s)
  case intCauseWrite v => exact write (u := s.writeIntCause v) rfl
  case intEnableWrite v => exact write (u := s.writeIntEnable v) rfl
  case freedSetWrite v => exact write (u := s.writeFreedSet v) rfl
  case statusWrite v => exact write (writeStatus_pending s v)
  case timeBaseWrite v => exact write (u := s.writeTimeBase v) rfl
  case registerWrite offset v =>
    rw [writeWord_plain (by simpa [Instr.wellFormed] using hw)]
    exact write (writePlain_pending s offset v)
  case nonWordAccess access offset enables =>
    rw [if_neg (by simpa [Instr.wellFormed] using hw)]
    exact write (u := s.nonWord) rfl
  case fullReset => rfl
  case resetRelease => exact leaveReset_pending s

/-- Settles O2: a command with operands of another row acts as one of the row that it spells (log 14), which keeps the
queue. -/
theorem everyCommandCompletes : Obligations.EveryCommandCompletes := by
  intro i s
  obtain ⟨t, ht⟩ := exec_total i s
  obtain ⟨j, hj, hacts⟩ := exec_as_wellFormed i s
  exact ⟨t, ht, exec_wellFormed_pending hj (hacts.symm.trans ht)⟩

end Sys2Proof.Machine
end
